-- ==== Sys2Proof/Word.lean ====
section
/-! DEFINITION. The widths of 00_scope.md R11 and 30_encoding.md R73, and no arithmetic of their own. A timestamp
(Time, R11, 60_exceptions.md R137) is an unbounded natural and is written Nat. -/

namespace Sys2Proof

/-- A byte, 8 bits (R11). -/
abbrev Byte := BitVec 8

/-- A stimulus word, 16 bits (R65, R73). -/
abbrev Word := BitVec 16

/-- A bus address, 4 bits (R11, R50). -/
abbrev Addr4 := BitVec 4

/-- A row number of the key matrix, 4 bits (R11). -/
abbrev Row := BitVec 4

/-- A column number of the key matrix, 3 bits (R11). -/
abbrev Column := BitVec 3

/-- A channel index, 0 red, 1 green, 2 blue, and the phase of a triplet, 0 to 2 (R11, R28, R29). -/
abbrev Channel := Fin 3

end Sys2Proof
end

