-- ==== Sys2Proof/Config.lean ====
section
/-! DEFINITION. The configuration parameters of 00_scope.md R9, and the free values the OPEN ones take after reset. -/

namespace Sys2Proof

/-- The two DAC depths of 10_state.md R33. -/
inductive BitDepth where
  | six
  | eight
  deriving DecidableEq, Repr, Inhabited

/-- The number of significant bits a depth stands for. -/
def BitDepth.toNat : BitDepth → Nat
  | .six => 6
  | .eight => 8

/-- The depth a DAC_BITS value names: none for a value other than 6 or 8, which construction refuses (40_palette.md R98). -/
def BitDepth.ofNat? (n : Nat) : Option BitDepth :=
  if n = 6 then some .six else if n = 8 then some .eight else none

/-- FRAME_BITS: one start bit, eight data bits, one stop bit (R9, decided; 30_encoding.md R76). -/
def Config.frameBits : Nat := 10

/-- ADDR_BITS: the width of a bus address (R9, decided; 20_memory.md R50). -/
def Config.addrBits : Nat := 4

/-- The parameters of R9, fixed at construction (10_state.md R22). They ride in State unchanged (log 1). -/
structure Config where
  /-- DAC_BITS, the configured depth: 6 or 8, any other value refused at construction. -/
  dacBits : Nat
  /-- BIT_PERIOD (T), the duration of one bit on the host line. -/
  bitPeriod : Nat
  /-- BIT_TOL, the tolerance of the pulse classifier. -/
  bitTol : Nat
  /-- CLICK_CMD, the one known command byte. -/
  clickCmd : Byte
  /-- CLICK_DURATION, how long a key click sounds. -/
  clickDuration : Nat
  /-- TXQ_DEPTH, how many scan bytes may wait. -/
  txqDepth : Nat
  /-- PAL_POWERON, the draw of palette memory at power-on: channel, then entry. -/
  palPowerOn : Vector (Vector Byte 256) 3
  deriving DecidableEq, Repr

/-- The ranges R9 gives the parameters. -/
abbrev Config.Valid (c : Config) : Prop :=
  (c.dacBits = 6 ∨ c.dacBits = 8) ∧ 0 < c.bitPeriod ∧ 2 * c.bitTol < c.bitPeriod ∧ 1 ≤ c.txqDepth

/-- The default BIT_TOL, BIT_PERIOD div 4 (R9). `State.reset` keeps the tolerance free instead (log 4). -/
def Config.defaultBitTol (bitPeriod : Nat) : Nat := bitPeriod / 4

/-- The decided TXQ_DEPTH (R9). -/
def Config.decidedTxqDepth : Nat := 16

/-! The draws below have no body: nothing can be proved of their values (log 3). -/

/-- DESIGN CHOICE (log 3), safe: the OPEN DAC_BITS, a free depth. -/
opaque Config.givenDepth : BitDepth

/-- DESIGN CHOICE (log 3), safe: BIT_PERIOD is one more than this free natural, so it is any natural above 0. -/
opaque Config.periodDraw : Nat

/-- DESIGN CHOICE (log 4), safe: the free natural that BIT_TOL is taken from. -/
opaque Config.tolDraw : Nat

/-- DESIGN CHOICE (log 3), safe: the OPEN CLICK_CMD. -/
opaque Config.clickCmdDraw : Byte

/-- DESIGN CHOICE (log 3), safe: the OPEN CLICK_DURATION. -/
opaque Config.clickDurationDraw : Nat

/-- DESIGN CHOICE (log 3), safe: the OPEN PAL_POWERON, a free byte for each channel and entry. -/
opaque Config.palDraw : Nat → Nat → Byte

/-- The configuration of `State.reset`: every OPEN parameter free within the range R9 gives it.
The remainder makes BIT_TOL any value with `2 * bitTol < bitPeriod`, and no other. -/
def Config.given : Config where
  dacBits := Config.givenDepth.toNat
  bitPeriod := Config.periodDraw + 1
  bitTol := Config.tolDraw % ((Config.periodDraw + 2) / 2)
  clickCmd := Config.clickCmdDraw
  clickDuration := Config.clickDurationDraw
  txqDepth := Config.decidedTxqDepth
  palPowerOn := Vector.ofFn fun c => Vector.ofFn fun e => Config.palDraw c.val e.val

end Sys2Proof
end

