-- ==== Sys2Proof/Syntax.lean ====
section
/-! DEFINITION. The operations of the block: one constructor per row of spec/opcode_table.json (30_encoding.md R77).
RD_REG and WR_REG have three rows each, and so three constructors each (log 9). -/

namespace Sys2Proof

/-- The kind field of a stimulus word, bits 15:13 (30_encoding.md R65). -/
inductive Kind where
  | busRead
  | busWrite
  | scanTick
  | lineChange
  | framerSent
  | frameTimer
  | reset
  | setBits
  deriving DecidableEq, Repr

/-- The operations of 30_encoding.md R77. -/
inductive Instr where
  /-- RD_WADDR, word 0x0000 (40_palette.md R84). -/
  | rdWaddr
  /-- RD_PDATA, word 0x0100 (R85). -/
  | rdPdata
  /-- RD_REG at address 2, word 0x0200 (R87). -/
  | rdReg2
  /-- RD_RADDR, word 0x0300 (R86). -/
  | rdRaddr
  /-- RD_REG at addresses 4 to 7, match 0x0400 mask 0xFCFF (R87). -/
  | rdReg4to7 (a : Addr4)
  /-- RD_REG at addresses 8 to 15, match 0x0800 mask 0xF8FF (R87). -/
  | rdReg8to15 (a : Addr4)
  /-- WR_WADDR, match 0x2000 mask 0xFF00 (R88). -/
  | wrWaddr (d : Byte)
  /-- WR_PDATA, match 0x2100 mask 0xFF00 (R89). -/
  | wrPdata (d : Byte)
  /-- WR_REG at address 2, match 0x2200 mask 0xFF00 (R93). -/
  | wrReg2 (d : Byte)
  /-- WR_RADDR, match 0x2300 mask 0xFF00 (R92). -/
  | wrRaddr (d : Byte)
  /-- WR_REG at addresses 4 to 7, match 0x2400 mask 0xFC00 (R93). -/
  | wrReg4to7 (a : Addr4) (d : Byte)
  /-- WR_REG at addresses 8 to 15, match 0x2800 mask 0xF800 (R93). -/
  | wrReg8to15 (a : Addr4) (d : Byte)
  /-- SCAN_TICK of row `r` with sample `s`, match 0x4000 mask 0xF000 (41_keyboard_scan.md R101). -/
  | scanTick (r : Row) (s : Byte)
  /-- LINE_CHANGE to level `l`, true for 1, match 0x6000 mask 0xFFFE (42_keyboard_line.md R112). -/
  | lineChange (l : Bool)
  /-- FRAMER_SENT, word 0x8000 (41_keyboard_scan.md R105). -/
  | framerSent
  /-- FRAME_TIMER, word 0xA000 (42_keyboard_line.md R121). -/
  | frameTimer
  /-- RESET, word 0xC000 (70_reset_and_hazards.md R143). -/
  | reset
  /-- SET_BITS, match 0xE000 mask 0xFFFE (40_palette.md R97). -/
  | setBits (bits : BitDepth)
  deriving DecidableEq, Repr

/-- The kind an operation belongs to (R65, R71). -/
def Instr.kind : Instr → Kind
  | .rdWaddr => .busRead
  | .rdPdata => .busRead
  | .rdReg2 => .busRead
  | .rdRaddr => .busRead
  | .rdReg4to7 _ => .busRead
  | .rdReg8to15 _ => .busRead
  | .wrWaddr _ => .busWrite
  | .wrPdata _ => .busWrite
  | .wrReg2 _ => .busWrite
  | .wrRaddr _ => .busWrite
  | .wrReg4to7 _ _ => .busWrite
  | .wrReg8to15 _ _ => .busWrite
  | .scanTick _ _ => .scanTick
  | .lineChange _ => .lineChange
  | .framerSent => .framerSent
  | .frameTimer => .frameTimer
  | .reset => .reset
  | .setBits _ => .setBits

/-- A stimulus: a 16-bit word together with its timestamp (R65). -/
structure Stimulus where
  word : Word
  time : Nat
  deriving DecidableEq, Repr

end Sys2Proof
end

