-- ==== Sys2Proof/WellFormed.lean ====
section
/-! DEFINITION. Which operands an operation's row of 30_encoding.md R77 admits. Every field but the address of a
general register is admitted at every value; the addresses of RD_REG and WR_REG are those of the row (R71). -/

namespace Sys2Proof

/-- Addresses of the rows with pattern 01xx (R71). -/
def Addr4.in4to7 (a : Addr4) : Bool := decide (4 ≤ a.toNat ∧ a.toNat ≤ 7)

/-- Addresses of the rows with pattern 1xxx (R71). -/
def Addr4.in8to15 (a : Addr4) : Bool := decide (8 ≤ a.toNat)

/-- The operands are ones the row's encoding admits. -/
def Instr.wellFormed : Instr → Bool
  | .rdWaddr => true
  | .rdPdata => true
  | .rdReg2 => true
  | .rdRaddr => true
  | .rdReg4to7 a => Addr4.in4to7 a
  | .rdReg8to15 a => Addr4.in8to15 a
  | .wrWaddr _ => true
  | .wrPdata _ => true
  | .wrReg2 _ => true
  | .wrRaddr _ => true
  | .wrReg4to7 a _ => Addr4.in4to7 a
  | .wrReg8to15 a _ => Addr4.in8to15 a
  | .scanTick _ _ => true
  | .lineChange _ => true
  | .framerSent => true
  | .frameTimer => true
  | .reset => true
  | .setBits _ => true

/-- `Instr.wellFormed` as a proposition. -/
abbrev Instr.WellFormed (i : Instr) : Prop := i.wellFormed = true

end Sys2Proof
end

