-- ==== Sys2Proof/Decode.lean ====
section
/-! DEFINITION. The decoder and the encoder of stimulus words (30_encoding.md R65 to R79), and the opcode map R77 as a
table of matches and masks, the form the two are held against. -/

namespace Sys2Proof

/-- Why a word is no operation. -/
inductive DecodeReject where
  /-- A reserved field is not zero (R78): it matches no row of R77. -/
  | reservedField
  deriving DecidableEq, Repr

/-- The three bits of a kind, R65. -/
def Kind.bits : Kind → BitVec 3
  | .busRead => 0b000#3
  | .busWrite => 0b001#3
  | .scanTick => 0b010#3
  | .lineChange => 0b011#3
  | .framerSent => 0b100#3
  | .frameTimer => 0b101#3
  | .reset => 0b110#3
  | .setBits => 0b111#3

/-- The kind of three bits: every value is assigned (R79). -/
def Kind.ofBits (b : BitVec 3) : Kind :=
  if b = 0b000#3 then .busRead
  else if b = 0b001#3 then .busWrite
  else if b = 0b010#3 then .scanTick
  else if b = 0b011#3 then .lineChange
  else if b = 0b100#3 then .framerSent
  else if b = 0b101#3 then .frameTimer
  else if b = 0b110#3 then .reset
  else .setBits

/-- Bits 15:13 of a word (R65). -/
def Word.kindField (w : Word) : BitVec 3 := w.extractLsb' 13 3

/-- Bit 12 of a word, reserved (R66). -/
def Word.reservedBit (w : Word) : BitVec 1 := w.extractLsb' 12 1

/-- Bits 11:8 of a word: the bus address or the row (R72). -/
def Word.highField (w : Word) : BitVec 4 := w.extractLsb' 8 4

/-- Bits 7:0 of a word: the data byte or the sample (R72). -/
def Word.lowField (w : Word) : BitVec 8 := w.extractLsb' 0 8

/-- Bits 11:1 of a word, reserved in LINE_CHANGE and SET_BITS (R69). -/
def Word.above0Field (w : Word) : BitVec 11 := w.extractLsb' 1 11

/-- Bits 11:0 of a word, reserved in the words without operands (R69). -/
def Word.restField (w : Word) : BitVec 12 := w.extractLsb' 0 12

/-- The bus read of an address: the map R70, R71. -/
def busReadOf (a : Addr4) : Instr :=
  if a = 0x0#4 then .rdWaddr
  else if a = 0x1#4 then .rdPdata
  else if a = 0x2#4 then .rdReg2
  else if a = 0x3#4 then .rdRaddr
  else if Addr4.in4to7 a then .rdReg4to7 a
  else .rdReg8to15 a

/-- The bus write of a byte to an address: the map R70, R71. -/
def busWriteOf (a : Addr4) (d : Byte) : Instr :=
  if a = 0x0#4 then .wrWaddr d
  else if a = 0x1#4 then .wrPdata d
  else if a = 0x2#4 then .wrReg2 d
  else if a = 0x3#4 then .wrRaddr d
  else if Addr4.in4to7 a then .wrReg4to7 a d
  else .wrReg8to15 a d

/-- The depth bit of SET_BITS: 0 is 6 bits, 1 is 8 bits (R69, R72). -/
def BitDepth.ofBit (b : Bool) : BitDepth := if b then .eight else .six

/-- The word's bit for a depth (R69). -/
def BitDepth.toBit : BitDepth → Bool
  | .six => false
  | .eight => true

/-- Every reserved field of a word is zero, by its kind (R66 to R69). -/
def Word.reservedZero (w : Word) : Bool :=
  decide (w.reservedBit = 0#1) &&
  match Kind.ofBits w.kindField with
  | .busRead => decide (w.lowField = 0#8)
  | .busWrite => true
  | .scanTick => true
  | .lineChange => decide (w.above0Field = 0#11)
  | .framerSent => decide (w.restField = 0#12)
  | .frameTimer => decide (w.restField = 0#12)
  | .reset => decide (w.restField = 0#12)
  | .setBits => decide (w.above0Field = 0#11)

/-- The operation a word names, or the rejection of a word with a reserved field not zero (R65 to R73, R78). -/
def decode (w : Word) : Except DecodeReject Instr :=
  if w.reservedBit = 0#1 then
    match Kind.ofBits w.kindField with
    | .busRead => if w.lowField = 0#8 then .ok (busReadOf w.highField) else .error .reservedField
    | .busWrite => .ok (busWriteOf w.highField w.lowField)
    | .scanTick => .ok (.scanTick w.highField w.lowField)
    | .lineChange => if w.above0Field = 0#11 then .ok (.lineChange (w.getLsbD 0)) else .error .reservedField
    | .framerSent => if w.restField = 0#12 then .ok .framerSent else .error .reservedField
    | .frameTimer => if w.restField = 0#12 then .ok .frameTimer else .error .reservedField
    | .reset => if w.restField = 0#12 then .ok .reset else .error .reservedField
    | .setBits =>
      if w.above0Field = 0#11 then .ok (.setBits (BitDepth.ofBit (w.getLsbD 0))) else .error .reservedField
  else .error .reservedField

/-- The instruction the decoder reads from the bits `w` of an opcode-table row, none where it rejects them.
A stimulus is one word of 16 bits (R73); the bits above `nbits` are 0. -/
def decodeTableWord (nbits w : Nat) : Option Instr :=
  match decode (BitVec.ofNat 16 (w % 2 ^ nbits)) with
  | .ok i => some i
  | .error _ => none

/-- A word from its kind, the four bits 11:8 and the eight bits 7:0; bit 12 is 0 (R66). -/
def wordOf (k : Kind) (high : BitVec 4) (low : Byte) : Word := k.bits ++ 0#1 ++ high ++ low

/-- The byte whose bit 0 is `b` and whose other bits are 0. -/
def bit0Byte (b : Bool) : Byte := 0#7 ++ BitVec.ofBool b

/-- The word of an operation, from the layouts R67 to R69. -/
def encode : Instr → Word
  | .rdWaddr => wordOf .busRead 0x0#4 0#8
  | .rdPdata => wordOf .busRead 0x1#4 0#8
  | .rdReg2 => wordOf .busRead 0x2#4 0#8
  | .rdRaddr => wordOf .busRead 0x3#4 0#8
  | .rdReg4to7 a => wordOf .busRead a 0#8
  | .rdReg8to15 a => wordOf .busRead a 0#8
  | .wrWaddr d => wordOf .busWrite 0x0#4 d
  | .wrPdata d => wordOf .busWrite 0x1#4 d
  | .wrReg2 d => wordOf .busWrite 0x2#4 d
  | .wrRaddr d => wordOf .busWrite 0x3#4 d
  | .wrReg4to7 a d => wordOf .busWrite a d
  | .wrReg8to15 a d => wordOf .busWrite a d
  | .scanTick r s => wordOf .scanTick r s
  | .lineChange l => wordOf .lineChange 0#4 (bit0Byte l)
  | .framerSent => wordOf .framerSent 0#4 0#8
  | .frameTimer => wordOf .frameTimer 0#4 0#8
  | .reset => wordOf .reset 0#4 0#8
  | .setBits bits => wordOf .setBits 0#4 (bit0Byte bits.toBit)

/-- One row of the opcode map R77: its match and mask, and which operations are the row's. -/
structure OpcodeRow where
  pattern : Word
  mask : Word
  owns : Instr → Bool

/-- A word selects a row when `w & mask = match` (R77). -/
def OpcodeRow.selects (row : OpcodeRow) (w : Word) : Bool := w &&& row.mask == row.pattern

/-- The opcode map, in the order of R77. -/
def opcodeMap : List OpcodeRow :=
  [ ⟨0x0000#16, 0xFFFF#16, fun i => match i with | .rdWaddr => true | _ => false⟩,
    ⟨0x0100#16, 0xFFFF#16, fun i => match i with | .rdPdata => true | _ => false⟩,
    ⟨0x0200#16, 0xFFFF#16, fun i => match i with | .rdReg2 => true | _ => false⟩,
    ⟨0x0300#16, 0xFFFF#16, fun i => match i with | .rdRaddr => true | _ => false⟩,
    ⟨0x0400#16, 0xFCFF#16, fun i => match i with | .rdReg4to7 _ => true | _ => false⟩,
    ⟨0x0800#16, 0xF8FF#16, fun i => match i with | .rdReg8to15 _ => true | _ => false⟩,
    ⟨0x2000#16, 0xFF00#16, fun i => match i with | .wrWaddr _ => true | _ => false⟩,
    ⟨0x2100#16, 0xFF00#16, fun i => match i with | .wrPdata _ => true | _ => false⟩,
    ⟨0x2200#16, 0xFF00#16, fun i => match i with | .wrReg2 _ => true | _ => false⟩,
    ⟨0x2300#16, 0xFF00#16, fun i => match i with | .wrRaddr _ => true | _ => false⟩,
    ⟨0x2400#16, 0xFC00#16, fun i => match i with | .wrReg4to7 _ _ => true | _ => false⟩,
    ⟨0x2800#16, 0xF800#16, fun i => match i with | .wrReg8to15 _ _ => true | _ => false⟩ ] ++
  [ ⟨0x4000#16, 0xF000#16, fun i => match i with | .scanTick _ _ => true | _ => false⟩,
    ⟨0x6000#16, 0xFFFE#16, fun i => match i with | .lineChange _ => true | _ => false⟩,
    ⟨0x8000#16, 0xFFFF#16, fun i => match i with | .framerSent => true | _ => false⟩,
    ⟨0xA000#16, 0xFFFF#16, fun i => match i with | .frameTimer => true | _ => false⟩,
    ⟨0xC000#16, 0xFFFF#16, fun i => match i with | .reset => true | _ => false⟩,
    ⟨0xE000#16, 0xFFFE#16, fun i => match i with | .setBits _ => true | _ => false⟩ ]

end Sys2Proof
end

