-- ==== Sys2Proof/Machine/Flags.lean ====
section
/-! DEFINITION. The block's flags: `active` (10_state.md R34) and `txInFlight` (R38), and what decides them. -/

namespace Sys2Proof.Machine

/-- `active` after the prologue of a stimulus of a kind: set by every kind but SET_BITS, never cleared (00_scope.md R18). -/
def activeAfter (active : Bool) (k : Kind) : Bool := active || decide (k ≠ .setBits)

/-- Where the byte of a detected change goes (41_keyboard_scan.md R101). -/
inductive TxRoute where
  /-- Nothing is outstanding: submit it, and `txInFlight` becomes true. -/
  | submit
  /-- A byte is outstanding and the queue has room: append it. -/
  | enqueue
  /-- The queue is full: leave the change unrecorded (R104). -/
  | defer
  deriving DecidableEq, Repr

/-- The transmit discipline of R101, R103 and R104, from the flag, the queue's length and TXQ_DEPTH. -/
def txRoute (inFlight : Bool) (queued depth : Nat) : TxRoute :=
  if inFlight = false then .submit else if queued < depth then .enqueue else .defer

end Sys2Proof.Machine
end

