-- ==== Sys2Proof/Machine/Types.lean ====
section
/-! DEFINITION. The types of the pieces of state that are not plain bit vectors or numbers. -/

namespace Sys2Proof.Machine

/-- A rendering-facing color, the triple (r', g', b') of 10_state.md R31. -/
structure Color where
  red : Byte
  green : Byte
  blue : Byte
  deriving DecidableEq, Repr

/-- The receive shift-register state (10_state.md R42): waiting for a start bit, or `pos` frame positions decoded with
the data bits so far in `shift`. R42 and R43 bound both; the bounds are an invariant (Safety.lean), not the type. -/
inductive RxState where
  | idle
  | rx (pos : Nat) (shift : Byte)
  deriving DecidableEq, Repr

/-- An output event of the block (00_scope.md R14). -/
inductive Output where
  /-- The byte a bus read returned. -/
  | busData (v : Byte)
  /-- A scan byte handed to the Serial Framer at a time. -/
  | txSubmit (b : Byte) (t : Nat)
  /-- A request to the Tone Generator to sound from a time for a duration. -/
  | toneClick (t : Nat) (d : Nat)
  deriving DecidableEq, Repr

end Sys2Proof.Machine
end

