-- ==== Sys2Proof/Machine/Operands.lean ====
section
/-! DEFINITION. The functions of operands alone: address masking, the pen function, the scan byte, the pulse classifier,
the receiver's transitions. None of them reads State. -/

namespace Sys2Proof.Machine

/-- The 4-bit address the block sees of an address of any width: masked with 0xF, never rejected (20_memory.md R50). -/
def maskAddr (addr : Nat) : Addr4 := BitVec.ofNat 4 (addr &&& 0xF)

/-- The kept bits of a channel byte: `(0xFF << (8 − bits)) & 0xFF` (40_palette.md R94). -/
def dacMask (bits : BitDepth) : Byte := 0xFF#8 <<< (8 - bits.toNat)

/-- The DAC of one channel byte (R94). -/
def dac (v : Byte) (bits : BitDepth) : Byte := v &&& dacMask bits

/-- The pen function, channel by channel (R94). -/
def pen (r g b : Byte) (bits : BitDepth) : Color := ⟨dac r bits, dac g bits, dac b bits⟩

/-- The pens of a palette memory under a depth: the color table R32 requires of it. Irreducible, so that comparing two
states does not compute 256 pens. -/
@[irreducible] def pensOf (pal : Vector (Vector Byte 256) 3) (bits : BitDepth) : Vector Color 256 :=
  Vector.ofFn fun e => pen pal[0][e] pal[1][e] pal[2][e] bits

/-- The packed form of a color: red in bits 23:16, green in 15:8, blue in 7:0 (20_memory.md R53). -/
def Color.packed (c : Color) : BitVec 24 := c.red ++ c.green ++ c.blue

/-- The phase after a byte that is not the last of a triplet, and 0 after the last (10_state.md R28, R29). -/
def nextPhase (k : Channel) : Channel := if k = 2 then 0 else k + 1

/-- The lowest-numbered column whose bit is set (41_keyboard_scan.md R101, R102). -/
def lowestColumn (changed : Byte) : Option Column :=
  ((List.finRange 8).find? fun j => changed.getLsbD j.val).map BitVec.ofFin

/-- The scan byte `{~p, r[3:0], c[2:0]}` (30_encoding.md R74). -/
def scanByte (p : Bool) (r : Row) (c : Column) : Byte := BitVec.ofBool (!p) ++ r ++ c

/-- A byte with the bit of column `c` set to `p` and every other bit kept (41_keyboard_scan.md R101). -/
def withColumn (x : Byte) (c : Column) (p : Bool) : Byte :=
  if p then x ||| (1#8 <<< c.toNat) else x &&& ~~~(1#8 <<< c.toNat)

/-- The byte with bits `i` to `j` set, empty when `j < i` (42_keyboard_line.md R117). -/
def ones (i j : Nat) : Byte := BitVec.ofNat 8 (2 ^ (j + 1) - 2 ^ i)

/-- The pulse classifier (R111): the nearest number of bit periods of a width, when it is at least 1 and within the
tolerance. The two inequalities are `|e − k·T| ≤ TOL` on naturals. -/
def classify (cfg : Config) (e : Nat) : Option Nat :=
  let k := (e + cfg.bitPeriod / 2) / cfg.bitPeriod
  if 1 ≤ k ∧ e ≤ k * cfg.bitPeriod + cfg.bitTol ∧ k * cfg.bitPeriod ≤ e + cfg.bitTol then some k else none

/-- A high run of width `e` that begins at position `pos` has reached the stop bit (R117, R121). -/
def reachesStop (cfg : Config) (pos : Nat) (e : Nat) : Bool :=
  decide ((Config.frameBits - pos) * cfg.bitPeriod ≤ e + cfg.bitTol)

/-- The byte of a frame whose positions from `pos` on are all high (R117, R121). -/
def completedByte (pos : Nat) (shift : Byte) : Byte := shift ||| ones (pos - 1) 7

/-- What a rising edge does to the receiver after a low run of width `e` (R115, R116, R118). -/
def riseEdge (cfg : Config) (e : Nat) : RxState → RxState
  | .idle => .idle
  | .rx pos shift =>
    match classify cfg e with
    | none => .idle
    | some k => if pos + k - 1 > 8 then .idle else .rx (pos + k) shift

/-- What a falling edge does to the receiver after a high run of width `e`, and the byte it delivers, if any
(R114, R117, R118). RX(0, s), which R43 rules out here, is treated as IDLE, as R114 says. -/
def fallEdge (cfg : Config) (e : Nat) : RxState → RxState × Option Byte
  | .idle => (.rx 0 0#8, none)
  | .rx pos shift =>
    if pos = 0 then (.rx 0 0#8, none)
    else if reachesStop cfg pos e then (.rx 0 0#8, some (completedByte pos shift))
    else
      match classify cfg e with
      | none => (.idle, none)
      | some k => (.rx (pos + k) (shift ||| ones (pos - 1) (pos + k - 2)), none)

/-- Decode(prev, e): the receiver after a transition from level `prev` held for `e` (R112, R114 to R117). -/
def decodePulse (cfg : Config) (prev : Bool) (e : Nat) (r : RxState) : RxState × Option Byte :=
  if prev then fallEdge cfg e r else (riseEdge cfg e r, none)

/-- The byte the frame timer completes at time `t`, if the frame deadline is past with the line high (R121). -/
def timerByte (cfg : Config) (level : Bool) (lastChange t : Nat) : RxState → Option Byte
  | .idle => none
  | .rx pos shift =>
    if 1 ≤ pos ∧ level = true ∧ reachesStop cfg pos (t - lastChange) = true then some (completedByte pos shift)
    else none

end Sys2Proof.Machine
end

