-- ==== Sys2Proof/Machine/State.lean ====
section
/-! DEFINITION. The state of the block (10_state.md), the reasons a step can stop, and the state at power-on. -/

namespace Sys2Proof.Machine

/-- Why the machine stops with a fault: never. The block raises no exception for any stimulus and any state, and no
behaviour of it is treated as a fault (60_exceptions.md R127; 93_implementation_defined.md), so no operation raises one.
Safe: the type has no value (log 16). -/
inductive Fault where
  deriving DecidableEq, Repr

/-- Why the model gives a stimulus no meaning: exactly the cases of 00_scope.md R15. Every one is safe: the machine stops
where a claim could otherwise be made (R15, 60_exceptions.md R129). -/
inductive Refusal where
  /-- The instruction has no meaning in the model yet. No arm of `exec` raises it. Safe. -/
  | notModelled (mnemonic : String)
  /-- A stimulus word with a reserved field not zero (30_encoding.md R78); raised by the step. Safe. -/
  | reservedField
  /-- A stimulus earlier than the one before it (00_scope.md R17); raised by the step. Safe. -/
  | outOfOrder
  /-- SET_BITS after any other stimulus since power-on (40_palette.md R98); raised by SET_BITS. Safe. -/
  | setBitsAfterActive
  /-- A DAC_BITS other than 6 or 8 (40_palette.md R98); raised by construction. Safe. -/
  | badDacBits
  deriving DecidableEq, Repr

/-- Everything the spec gives the machine, and the model's `config` and `pending`. -/
structure State where
  /-- reg[0..15] (R23, R24). -/
  regs : Vector Byte 16
  /-- The entry the next completed triplet commits to (R25). -/
  writeIndex : Byte
  /-- The entry palette-data reads return bytes of (R26). -/
  readIndex : Byte
  /-- The staging buffer (R27). -/
  stage : Vector Byte 3
  /-- The staging slot the next palette-data write fills (R28). -/
  writePhase : Channel
  /-- The channel the next palette-data read returns (R29). -/
  readPhase : Channel
  /-- Palette memory, by channel and entry (R30; log 7). -/
  pal : Vector (Vector Byte 256) 3
  /-- The rendering-facing color table (R31). -/
  exposed : Vector Color 256
  /-- The DAC bit depth (R33). -/
  dacBits : BitDepth
  /-- Some stimulus other than SET_BITS has been applied since power-on (R34). -/
  active : Bool
  /-- The row of the last scan tick (R35). -/
  scanPosition : Row
  /-- lastScan[0..15], the recorded state of each row (R36). -/
  lastScan : Vector Byte 16
  /-- A submitted scan byte is not yet acknowledged (R38). -/
  txInFlight : Bool
  /-- The scan bytes waiting for the Serial Framer, head first (R39). -/
  txQueue : List Byte
  /-- The host line's level, true for 1, the idle level (R40). -/
  lineLevel : Bool
  /-- The timestamp of the last level transition (R41). -/
  lastChange : Nat
  /-- The receive shift-register state (R42). -/
  rx : RxState
  /-- The timestamp of the last stimulus applied (R44). Inside a meaning it is the stimulus's own time `t` (log 5). -/
  lastTime : Nat
  /-- The output events so far, the oldest first (R45; log 20). -/
  outputs : List Output
  /-- The configuration, which no step writes (R22; log 1). -/
  config : Config
  /-- The model's own: stimuli delivered and not yet applied, the next one first (log 2). -/
  pending : List Stimulus
  deriving DecidableEq, Repr

/-- The power-on state of a configuration with a depth (10_state.md R47; 70_reset_and_hazards.md R146). -/
def State.powerOn (cfg : Config) (bits : BitDepth) : State where
  regs := Vector.replicate 16 0x00#8
  writeIndex := 0
  readIndex := 0
  stage := Vector.replicate 3 0x00#8
  writePhase := 0
  readPhase := 0
  pal := cfg.palPowerOn
  exposed := pensOf cfg.palPowerOn bits
  dacBits := bits
  active := false
  scanPosition := 0
  lastScan := Vector.replicate 16 0x00#8
  txInFlight := false
  txQueue := []
  lineLevel := true
  lastChange := 0
  rx := .idle
  lastTime := 0
  outputs := []
  config := cfg
  pending := []

/-- The machine with nothing applied since power-on, its OPEN parameters free (R47; log 3, log 8). -/
def State.reset : State := State.powerOn Config.given Config.givenDepth

end Sys2Proof.Machine
end

