-- ==== Sys2Proof/Machine/Ops.lean ====
section
/-! DEFINITION. The named operations over the state: accessors, the palette's and the keyboard's actions, RESET, and the
prologue every stimulus runs. The block takes no exception (60_exceptions.md R127, R133, R134), so there is no exception
entry or return here; RESET is the only event that acts on both controllers (10_state.md R20). -/

namespace Sys2Proof.Machine

/-! ## Accessors -/

/-- reg[a] (10_state.md R23). -/
def State.reg (s : State) (a : Addr4) : Byte := s.regs[a.toNat]'a.isLt

/-- pal[c][e] (R30). -/
def State.palByte (s : State) (c : Channel) (e : Byte) : Byte := s.pal[c.val][e.toNat]'e.isLt

/-- exposed[e], as the renderer reads it (R31). -/
def State.color (s : State) (e : Byte) : Color := s.exposed[e.toNat]'e.isLt

/-- The packed 24-bit color of an entry, as the renderer reads it (R31; 20_memory.md R53). -/
def State.packedColor (s : State) (e : Byte) : BitVec 24 := (s.color e).packed

/-- lastScan[r] (R36). -/
def State.rowScan (s : State) (r : Row) : Byte := s.lastScan[r.toNat]'r.isLt

/-- The color R32 requires of an entry: the pen of its palette bytes under the current depth. -/
def State.penOf (s : State) (e : Byte) : Color :=
  pen (s.palByte 0 e) (s.palByte 1 e) (s.palByte 2 e) s.dacBits

/-! ## Single updates -/

/-- Append an output event to the history (00_scope.md R12, R14; 10_state.md R45). -/
def State.emit (s : State) (o : Output) : State := { s with outputs := s.outputs ++ [o] }

/-- reg[a] <- v (40_palette.md R93). -/
def State.setReg (s : State) (a : Addr4) (v : Byte) : State := { s with regs := s.regs.set a.toNat v a.isLt }

/-- stage[k] <- v (R89). -/
def State.setStage (s : State) (k : Channel) (v : Byte) : State := { s with stage := s.stage.set k.val v }

/-- Set the write cursor and its phase (R88, R89, R90). -/
def State.setWriteCursor (s : State) (e : Byte) (k : Channel) : State := { s with writeIndex := e, writePhase := k }

/-- Set the read cursor and its phase (R85, R92). -/
def State.setReadCursor (s : State) (e : Byte) (k : Channel) : State := { s with readIndex := e, readPhase := k }

/-- Write the three channels of an entry (R90). -/
def State.setEntry (s : State) (e r g b : Byte) : State :=
  { s with pal := #v[s.pal[0].set e.toNat r e.isLt, s.pal[1].set e.toNat g e.isLt, s.pal[2].set e.toNat b e.isLt] }

/-- UpdatePen(e) (R95). -/
def State.updatePen (s : State) (e : Byte) : State := { s with exposed := s.exposed.set e.toNat (s.penOf e) e.isLt }

/-- Set the depth and run UpdatePen for every entry (R97). -/
def State.setDepth (s : State) (bits : BitDepth) : State := { s with dacBits := bits, exposed := pensOf s.pal bits }

/-- scanPosition <- r (41_keyboard_scan.md R101). -/
def State.setScanPosition (s : State) (r : Row) : State := { s with scanPosition := r }

/-- lastScan[r][c] <- p (R101). -/
def State.recordKey (s : State) (r : Row) (c : Column) (p : Bool) : State :=
  { s with lastScan := s.lastScan.set r.toNat (withColumn (s.rowScan r) c p) r.isLt }

/-- Hand a scan byte to the Serial Framer at the stimulus's time; it is then outstanding (R101, R105). -/
def State.submit (s : State) (b : Byte) : State :=
  { s with outputs := s.outputs ++ [.txSubmit b s.lastTime], txInFlight := true }

/-- Append a scan byte to the queue (R101). -/
def State.enqueue (s : State) (b : Byte) : State := { s with txQueue := s.txQueue ++ [b] }

/-- Replace the queue and clear or keep the flag (R105). -/
def State.setTx (s : State) (inFlight : Bool) (q : List Byte) : State := { s with txInFlight := inFlight, txQueue := q }

/-- rx <- r (42_keyboard_line.md). -/
def State.setRx (s : State) (r : RxState) : State := { s with rx := r }

/-- Record a transition of the host line at the stimulus's time (R112). -/
def State.setLine (s : State) (l : Bool) : State := { s with lineLevel := l, lastChange := s.lastTime }

/-! ## The palette controller -/

/-- Commit(): the staged triplet goes to palette memory, its pen is updated, the write cursor advances (40_palette.md R90).
`pal[0..2][e] <- stage`; the write index is an 8-bit value, so adding 1 wraps modulo 256 (R91). -/
def State.commit (s : State) : State :=
  (((s.setEntry s.writeIndex s.stage[0] s.stage[1] s.stage[2]).updatePen s.writeIndex).setWriteCursor
    (s.writeIndex + 1) 0)

/-- The palette-data write (R89). -/
def State.writeData (s : State) (d : Byte) : State :=
  if s.writePhase = 2 then (s.setStage s.writePhase d).commit
  else (s.setStage s.writePhase d).setWriteCursor s.writeIndex (nextPhase s.writePhase)

/-- The palette-data read: the byte is taken from palette memory at the time of the read, then the cursor moves, then the
byte is returned (R85). -/
def State.readData (s : State) : State :=
  let v := s.palByte s.readPhase s.readIndex
  if s.readPhase = 2 then (s.setReadCursor (s.readIndex + 1) 0).emit (.busData v)
  else (s.setReadCursor s.readIndex (nextPhase s.readPhase)).emit (.busData v)

/-- The read of a general register (R87). -/
def State.readReg (s : State) (a : Addr4) : State := s.emit (.busData (s.reg a))

/-! ## The keyboard controller -/

/-- What a tick does with a detected change at column `c` of row `r`, now `p` (41_keyboard_scan.md R101 to R104). -/
def State.reportChange (s : State) (r : Row) (c : Column) (p : Bool) : State :=
  match txRoute s.txInFlight s.txQueue.length s.config.txqDepth with
  | .submit => (s.submit (scanByte p r c)).recordKey r c p
  | .enqueue => (s.enqueue (scanByte p r c)).recordKey r c p
  | .defer => s

/-- One row period: compare the sample with the recorded row and report the lowest changed column (R101, R102). -/
def State.scanRow (s : State) (r : Row) (sample : Byte) : State :=
  match lowestColumn (sample ^^^ s.rowScan r) with
  | none => s.setScanPosition r
  | some c => (s.setScanPosition r).reportChange r c (sample.getLsbD c.toNat)

/-- The Serial Framer has sent the outstanding byte (R105, R106). -/
def State.framerDone (s : State) : State :=
  if s.txInFlight = false then s
  else
    match s.txQueue with
    | [] => s.setTx false []
    | b :: rest => (s.setTx true rest).submit b

/-- Deliver(byte, t) for an assembled byte, nothing for none (42_keyboard_line.md R119, R120). -/
def State.deliver (s : State) : Option Byte → State
  | none => s
  | some b => if b = s.config.clickCmd then s.emit (.toneClick s.lastTime s.config.clickDuration) else s

/-- A level report of the host line (R112, R113). -/
def State.changeLine (s : State) (l : Bool) : State :=
  if l = s.lineLevel then s
  else
    let p := decodePulse s.config s.lineLevel (s.lastTime - s.lastChange) s.rx
    ((s.setRx p.1).deliver p.2).setLine l

/-- The receive timer (R121). -/
def State.expireTimer (s : State) : State :=
  match timerByte s.config s.lineLevel s.lastChange s.lastTime s.rx with
  | none => s
  | some b => (s.deliver (some b)).setRx .idle

/-- The frame deadline, defined while a frame's last run is high (R122). -/
def State.frameDeadline (s : State) : Option Nat :=
  match s.rx with
  | .idle => none
  | .rx pos _ =>
    if 1 ≤ pos ∧ s.lineLevel = true then
      some (s.lastChange + (Config.frameBits - pos) * s.config.bitPeriod - s.config.bitTol)
    else none

/-! ## Reset -/

/-- RESET of both controllers at the stimulus's time (70_reset_and_hazards.md R143, R144). -/
def State.resetAll (s : State) : State :=
  { s with
    regs := Vector.replicate 16 0x00#8
    writeIndex := 0
    readIndex := 0
    writePhase := 0
    readPhase := 0
    stage := Vector.replicate 3 0x00#8
    scanPosition := 0
    lastScan := Vector.replicate 16 0x00#8
    txInFlight := false
    txQueue := []
    lineLevel := true
    lastChange := s.lastTime
    rx := .idle }

/-! ## Stimuli -/

/-- What the prologue writes for a stimulus of a kind at a time (00_scope.md R18). -/
def State.prologue (s : State) (k : Kind) (t : Nat) : State :=
  { s with active := activeAfter s.active k, lastTime := t }

/-- The next stimulus delivered, and the state without it; none when nothing is pending (log 2). -/
def State.fetch (s : State) : Option (Stimulus × State) :=
  match s.pending with
  | [] => none
  | st :: rest => some (st, { s with pending := rest })

/-- The environment delivers stimuli after those already pending (log 2). -/
def State.deliverStimuli (s : State) (l : List Stimulus) : State := { s with pending := s.pending ++ l }

end Sys2Proof.Machine
end

