-- ==== Sys2Proof/Machine/BusRead.lean ====
section
/-! DEFINITION. The meanings of the bus reads (40_palette.md R82, R84 to R87). Each emits exactly one BusData. -/

namespace Sys2Proof.Machine

/-- RD_WADDR (R84). -/
def execRdWaddr (s : State) : Host.Outcome State Fault Refusal := .next (s.emit (.busData s.writeIndex))

/-- RD_PDATA (R85). -/
def execRdPdata (s : State) : Host.Outcome State Fault Refusal := .next s.readData

/-- RD_RADDR (R86). -/
def execRdRaddr (s : State) : Host.Outcome State Fault Refusal := .next (s.emit (.busData s.readIndex))

/-- RD_REG at address 2 (R87). -/
def execRdReg2 (s : State) : Host.Outcome State Fault Refusal := .next (s.readReg 2)

/-- RD_REG at addresses 4 to 7 (R87). -/
def execRdReg4to7 (a : Addr4) (s : State) : Host.Outcome State Fault Refusal := .next (s.readReg a)

/-- RD_REG at addresses 8 to 15 (R87). -/
def execRdReg8to15 (a : Addr4) (s : State) : Host.Outcome State Fault Refusal := .next (s.readReg a)

end Sys2Proof.Machine
end

