-- ==== Sys2Proof/Machine/BusWrite.lean ====
section
/-! DEFINITION. The meanings of the bus writes (40_palette.md R83, R88 to R93). None emits an output. -/

namespace Sys2Proof.Machine

/-- WR_WADDR: the write cursor is set and its phase cleared; the staging buffer keeps its bytes (R88). -/
def execWrWaddr (d : Byte) (s : State) : Host.Outcome State Fault Refusal := .next (s.setWriteCursor d 0)

/-- WR_PDATA (R89, R90). -/
def execWrPdata (d : Byte) (s : State) : Host.Outcome State Fault Refusal := .next (s.writeData d)

/-- WR_RADDR: the read cursor is set and its phase cleared (R92). -/
def execWrRaddr (d : Byte) (s : State) : Host.Outcome State Fault Refusal := .next (s.setReadCursor d 0)

/-- WR_REG at address 2 (R93). -/
def execWrReg2 (d : Byte) (s : State) : Host.Outcome State Fault Refusal := .next (s.setReg 2 d)

/-- WR_REG at addresses 4 to 7 (R93). -/
def execWrReg4to7 (a : Addr4) (d : Byte) (s : State) : Host.Outcome State Fault Refusal := .next (s.setReg a d)

/-- WR_REG at addresses 8 to 15 (R93). -/
def execWrReg8to15 (a : Addr4) (d : Byte) (s : State) : Host.Outcome State Fault Refusal := .next (s.setReg a d)

end Sys2Proof.Machine
end

