-- ==== Sys2Proof/Machine/Keyboard.lean ====
section
/-! DEFINITION. The meanings of the keyboard controller's stimuli (41_keyboard_scan.md, 42_keyboard_line.md). -/

namespace Sys2Proof.Machine

/-- SCAN_TICK of row `r` with sample `sample` (R101 to R104). -/
def execScanTick (r : Row) (sample : Byte) (s : State) : Host.Outcome State Fault Refusal := .next (s.scanRow r sample)

/-- FRAMER_SENT (R105, R106). -/
def execFramerSent (s : State) : Host.Outcome State Fault Refusal := .next s.framerDone

/-- LINE_CHANGE to level `l` (R112 to R120). -/
def execLineChange (l : Bool) (s : State) : Host.Outcome State Fault Refusal := .next (s.changeLine l)

/-- FRAME_TIMER (R121). -/
def execFrameTimer (s : State) : Host.Outcome State Fault Refusal := .next s.expireTimer

end Sys2Proof.Machine
end

