-- ==== Sys2Proof/Machine/System.lean ====
section
/-! DEFINITION. The meanings of RESET (70_reset_and_hazards.md R143) and SET_BITS (40_palette.md R97, R98). -/

namespace Sys2Proof.Machine

/-- RESET (R143, R144). -/
def execReset (s : State) : Host.Outcome State Fault Refusal := .next s.resetAll

/-- SET_BITS: refused once the block is active, otherwise the depth is set and every pen recomputed (R97, R98). -/
def execSetBits (bits : BitDepth) (s : State) : Host.Outcome State Fault Refusal :=
  if s.active = true then .refused .setBitsAfterActive else .next (s.setDepth bits)

end Sys2Proof.Machine
end

