-- ==== Sys2Proof/Machine/Dispatch.lean ====
section
/-! DEFINITION. One arm per row of the opcode map (30_encoding.md R77): the kind's own rule, run on the state the prologue
left, with the stimulus's time in `lastTime` (00_scope.md R18). -/

namespace Sys2Proof.Machine

def exec (i : Instr) (s : State) : Host.Outcome State Fault Refusal :=
  match i with
  | .rdWaddr => Sys2Proof.Machine.execRdWaddr s
  | .rdPdata => Sys2Proof.Machine.execRdPdata s
  | .rdReg2 => Sys2Proof.Machine.execRdReg2 s
  | .rdRaddr => Sys2Proof.Machine.execRdRaddr s
  | .rdReg4to7 a => Sys2Proof.Machine.execRdReg4to7 a s
  | .rdReg8to15 a => Sys2Proof.Machine.execRdReg8to15 a s
  | .wrWaddr d => Sys2Proof.Machine.execWrWaddr d s
  | .wrPdata d => Sys2Proof.Machine.execWrPdata d s
  | .wrReg2 d => Sys2Proof.Machine.execWrReg2 d s
  | .wrRaddr d => Sys2Proof.Machine.execWrRaddr d s
  | .wrReg4to7 a d => Sys2Proof.Machine.execWrReg4to7 a d s
  | .wrReg8to15 a d => Sys2Proof.Machine.execWrReg8to15 a d s
  | .scanTick r sample => Sys2Proof.Machine.execScanTick r sample s
  | .lineChange l => Sys2Proof.Machine.execLineChange l s
  | .framerSent => Sys2Proof.Machine.execFramerSent s
  | .frameTimer => Sys2Proof.Machine.execFrameTimer s
  | .reset => Sys2Proof.Machine.execReset s
  | .setBits bits => Sys2Proof.Machine.execSetBits bits s

end Sys2Proof.Machine
end

