-- ==== Sys2Proof/Machine/Apply.lean ====
section
/-! DEFINITION. One stimulus applied to the block (00_scope.md R13, R18), and a sequence of them (20_memory.md R60). -/

namespace Sys2Proof.Machine

/-- The step of R18 for one stimulus: the reserved-field check, the order check, the prologue, the kind's own rule.
A refusal carries no state: the state the refused stimulus met is unchanged (R18; log 6). -/
def applyStimulus (st : Stimulus) (s : State) : Host.Outcome State Fault Refusal :=
  match decode st.word with
  | .error .reservedField => .refused .reservedField
  | .ok i => if st.time < s.lastTime then .refused .outOfOrder else exec i (s.prologue i.kind st.time)

/-- A sequence of stimuli applied in order, up to the first refusal. -/
def applyAll : List Stimulus → State → Host.Outcome State Fault Refusal
  | [], s => .next s
  | st :: rest, s =>
    match applyStimulus st s with
    | .next s' => applyAll rest s'
    | .fault r => .fault r
    | .refused r => .refused r

/-- The machine's step: the next pending stimulus is applied; with none pending the state persists (60_exceptions.md R142;
log 2). -/
def stepPending (s : State) : Host.Outcome State Fault Refusal :=
  match s.fetch with
  | none => .next s
  | some (st, s') => applyStimulus st s'

/-- A stimulus placed in front of those pending. -/
def State.deliverFirst (s : State) (st : Stimulus) : State := { s with pending := st :: s.pending }

end Sys2Proof.Machine
end

