-- ==== Sys2Proof/Machine/Step.lean ====
section
/-! DEFINITION. The fixed names of the step. -/

namespace Sys2Proof.Machine

/-- One step of the machine. -/
def step (s : State) : Host.Outcome State Fault Refusal := stepPending s

/-- The state with the word `w` of `nbits` bits as the next stimulus, stamped with the latest time applied, so that the
order check of 00_scope.md R17 admits it (log 18). -/
def State.withFetchWord (s : State) (nbits w : Nat) : State :=
  s.deliverFirst ⟨BitVec.ofNat 16 (w % 2 ^ nbits), s.lastTime⟩

end Sys2Proof.Machine
end

