-- ==== Sys2Proof/Machine/Boot.lean ====
section
/-! DEFINITION. Construction of the block and its configuration-time SET_BITS (40_palette.md R98; 70_reset_and_hazards.md
R146). -/

namespace Sys2Proof.Machine

/-- The configuration's first stimulus: SET_BITS with DAC_BITS, at time 0 (R98, R146). -/
def firstSetBits (bits : BitDepth) : Stimulus := ⟨encode (.setBits bits), 0⟩

/-- Construction with a configuration: a DAC_BITS other than 6 or 8 is refused, any other gives the power-on state with the
configuration's SET_BITS applied (R98). -/
def construct (cfg : Config) : Host.Outcome State Fault Refusal :=
  match BitDepth.ofNat? cfg.dacBits with
  | none => .refused .badDacBits
  | some bits => applyStimulus (firstSetBits bits) (State.powerOn cfg bits)

end Sys2Proof.Machine
end

