-- ==== Sys2Proof/Machine/SaveState.lean ====
section
/-! DEFINITION. The save-state of the block (10_state.md R46). -/

namespace Sys2Proof.Machine

/-- The items of R46: what the source lists, and the phases, the queue and lastScan as sixteen bytes, which the spec adds.
`exposed` is derived (R32) and is not saved; `active`, `lastTime` and `outputs` are not in R46. -/
structure SaveState where
  regs : Vector Byte 16
  writeIndex : Byte
  readIndex : Byte
  pal : Vector (Vector Byte 256) 3
  stage : Vector Byte 3
  dacBits : BitDepth
  scanPosition : Row
  lastScan : Vector Byte 16
  lineLevel : Bool
  lastChange : Nat
  rx : RxState
  txInFlight : Bool
  writePhase : Channel
  readPhase : Channel
  txQueue : List Byte
  deriving DecidableEq, Repr

/-- The save-state of a state. -/
def State.save (s : State) : SaveState where
  regs := s.regs
  writeIndex := s.writeIndex
  readIndex := s.readIndex
  pal := s.pal
  stage := s.stage
  dacBits := s.dacBits
  scanPosition := s.scanPosition
  lastScan := s.lastScan
  lineLevel := s.lineLevel
  lastChange := s.lastChange
  rx := s.rx
  txInFlight := s.txInFlight
  writePhase := s.writePhase
  readPhase := s.readPhase
  txQueue := s.txQueue

/-- Restoring sets every saved item; the color table follows from the restored palette memory and depth (R32; log 11),
and nothing else changes. -/
def State.restore (s : State) (v : SaveState) : State :=
  { s with
    regs := v.regs
    writeIndex := v.writeIndex
    readIndex := v.readIndex
    pal := v.pal
    stage := v.stage
    dacBits := v.dacBits
    exposed := pensOf v.pal v.dacBits
    scanPosition := v.scanPosition
    lastScan := v.lastScan
    lineLevel := v.lineLevel
    lastChange := v.lastChange
    rx := v.rx
    txInFlight := v.txInFlight
    writePhase := v.writePhase
    readPhase := v.readPhase
    txQueue := v.txQueue }

end Sys2Proof.Machine
end

