-- ==== Sys2Proof/Machine/Script.lean ====
section
/-! DEFINITION. Stimulus scripts: the statements of 30_encoding.md R80, the pseudo-instructions of R81 and what they
assemble to. The text form is read in ScriptText.lean. -/

namespace Sys2Proof.Machine

/-- A statement of a script: R80's eight, then R81's six. -/
inductive ScriptOp where
  | rd (a : Addr4)
  | wr (a : Addr4) (d : Byte)
  | tick (r : Row) (s : Byte)
  | line (l : Bool)
  | sent
  | ftimer
  | reset
  | setbits (bits : BitDepth)
  | setw (e : Byte)
  | setr (e : Byte)
  | wrentry (e r g b : Byte)
  | rdentry (e : Byte)
  | scan (samples : Vector Byte 16)
  | sendbyte (b : Byte)
  deriving DecidableEq, Repr

/-- A script line: an optional time and a statement (R80). -/
structure ScriptLine where
  time : Option Nat
  op : ScriptOp
  deriving DecidableEq, Repr

/-- The level of the host line in frame position `p` of a byte: a start bit 0, eight data bits least significant first,
a stop bit 1 (R76, R81). -/
def frameLevel (b : Byte) (p : Nat) : Bool :=
  if p = 0 then false else if p ≤ 8 then b.getLsbD (p - 1) else true

/-- The level before frame position `p`: the idle level 1 before the start bit (R81). -/
def levelBefore (b : Byte) (p : Nat) : Bool := if p = 0 then true else frameLevel b (p - 1)

/-- The line change at frame position `p` of a frame begun at `t`, if the level changes there (R81). -/
def frameEdge (cfg : Config) (t : Nat) (b : Byte) (p : Nat) : Option Stimulus :=
  if frameLevel b p = levelBefore b p then none
  else some ⟨encode (.lineChange (frameLevel b p)), t + p * cfg.bitPeriod⟩

/-- The transitions of the exact frame of a byte begun at `t` (R76, R81). -/
def frameEdges (cfg : Config) (t : Nat) (b : Byte) : List Stimulus :=
  (List.range Config.frameBits).filterMap (frameEdge cfg t b)

/-- `@t sendbyte b`: the transitions of the exact frame, then the frame timer at the frame deadline (R81). -/
def sendByte (cfg : Config) (t : Nat) (b : Byte) : List Stimulus :=
  frameEdges cfg t b ++
    [⟨encode .frameTimer, t + Config.frameBits * cfg.bitPeriod - cfg.bitTol⟩]

/-- Operations as stimuli that carry one timestamp. -/
def stimuliAt (t : Nat) (l : List Instr) : List Stimulus := l.map fun i => ⟨encode i, t⟩

/-- `scan S0, ..., S15`: one tick of each row, rows 0 to 15 (R81). -/
def scanCycle (samples : Vector Byte 16) : List Instr :=
  (List.finRange 16).map fun r => .scanTick (BitVec.ofFin r) samples[r]

/-- `wrentry E, R, G, B` (R81). -/
def writeEntry (e r g b : Byte) : List Instr := [.wrWaddr e, .wrPdata r, .wrPdata g, .wrPdata b]

/-- `rdentry E` (R81). -/
def readEntry (e : Byte) : List Instr := [.wrRaddr e, .rdPdata, .rdPdata, .rdPdata]

/-- The palette-data writes of a list of colors, each red, green, blue (20_memory.md R52). -/
def writeTriplets (l : List (Byte × Byte × Byte)) : List Instr :=
  l.flatMap fun x => [.wrPdata x.1, .wrPdata x.2.1, .wrPdata x.2.2]

/-- The stimuli of a statement at a time (R80, R81). -/
def ScriptOp.expand (cfg : Config) (t : Nat) : ScriptOp → List Stimulus
  | .rd a => stimuliAt t [busReadOf a]
  | .wr a d => stimuliAt t [busWriteOf a d]
  | .tick r s => stimuliAt t [.scanTick r s]
  | .line l => stimuliAt t [.lineChange l]
  | .sent => stimuliAt t [.framerSent]
  | .ftimer => stimuliAt t [.frameTimer]
  | .reset => stimuliAt t [.reset]
  | .setbits bits => stimuliAt t [.setBits bits]
  | .setw e => stimuliAt t [busWriteOf 0x0#4 e]
  | .setr e => stimuliAt t [busWriteOf 0x3#4 e]
  | .wrentry e r g b => stimuliAt t (writeEntry e r g b)
  | .rdentry e => stimuliAt t (readEntry e)
  | .scan samples => stimuliAt t (scanCycle samples)
  | .sendbyte b => sendByte cfg t b

/-- The time of the last stimulus of a list, or the given time for an empty one. -/
def timeAfter (t : Nat) (l : List Stimulus) : Nat := (l.getLast?.map Stimulus.time).getD t

/-- The stimuli of a script; a line without a time has the time of the line before, 0 for the first (R80). After a
pseudo-instruction "the line before" is the last line of its expansion (log 17). -/
def assemble (cfg : Config) : Nat → List ScriptLine → List Stimulus
  | _, [] => []
  | last, ln :: rest =>
    let now := ln.op.expand cfg (ln.time.getD last)
    now ++ assemble cfg (timeAfter (ln.time.getD last) now) rest

end Sys2Proof.Machine
end

