-- ==== Sys2Proof/Safety.lean ====
section
/-! DEFINITION. The terms claims use: the invariants the spec states, which states a machine can be in, what the two
controllers share, and the duties of the environment. -/

namespace Sys2Proof

/-! ## Kinds of operation -/

/-- The operations of the palette controller (R20). -/
def Instr.isPalette (i : Instr) : Bool :=
  match i.kind with
  | .busRead => true
  | .busWrite => true
  | .setBits => true
  | .scanTick => false
  | .lineChange => false
  | .framerSent => false
  | .frameTimer => false
  | .reset => false

/-- The operations of the keyboard controller (R20). -/
def Instr.isKeyboard (i : Instr) : Bool :=
  match i.kind with
  | .scanTick => true
  | .lineChange => true
  | .framerSent => true
  | .frameTimer => true
  | .busRead => false
  | .busWrite => false
  | .setBits => false
  | .reset => false

/-- RD_REG or WR_REG (30_encoding.md R71). -/
def Instr.isGeneralRegister : Instr → Bool
  | .rdReg2 => true
  | .rdReg4to7 _ => true
  | .rdReg8to15 _ => true
  | .wrReg2 _ => true
  | .wrReg4to7 _ _ => true
  | .wrReg8to15 _ _ => true
  | .rdWaddr => false
  | .rdPdata => false
  | .rdRaddr => false
  | .wrWaddr _ => false
  | .wrPdata _ => false
  | .wrRaddr _ => false
  | .scanTick _ _ => false
  | .lineChange _ => false
  | .framerSent => false
  | .frameTimer => false
  | .reset => false
  | .setBits _ => false

/-- A palette-data write. -/
def Instr.isDataWrite : Instr → Bool
  | .wrPdata _ => true
  | _ => false

/-- A palette-data read. -/
def Instr.isDataRead : Instr → Bool
  | .rdPdata => true
  | _ => false

/-- The bus operations that set no cursor: palette data, cursor reads, general registers (40_palette.md R100). -/
def Instr.leavesCursorsAlone (i : Instr) : Bool :=
  i.isDataWrite || i.isDataRead || i.isGeneralRegister || decide (i = .rdWaddr) || decide (i = .rdRaddr)

end Sys2Proof

namespace Sys2Proof.Machine

/-! ## Invariants -/

/-- The color table holds the pens of palette memory under the current depth (10_state.md R32). -/
def PenTable (s : State) : Prop := ∀ e : Byte, s.color e = s.penOf e

/-- Scan bytes wait only while one is outstanding, and at most TXQ_DEPTH of them (R39). -/
def QueueDiscipline (s : State) : Prop :=
  (s.txQueue ≠ [] → s.txInFlight = true) ∧ s.txQueue.length ≤ s.config.txqDepth

/-- The receiver's shape between stimuli (R42, R43). -/
def ReceiverShape (s : State) : Prop :=
  ∀ pos shift, s.rx = .rx pos shift →
    (pos = 0 → s.lineLevel = false ∧ shift = 0) ∧
    (1 ≤ pos → pos ≤ 9 ∧ ∀ i, pos - 1 ≤ i → i ≤ 7 → shift.getLsbD i = false)

/-- The three cells of the register file that no bus address reaches hold 0x00 (R24). -/
def HiddenRegsZero (s : State) : Prop := s.reg 0 = 0 ∧ s.reg 1 = 0 ∧ s.reg 3 = 0

/-- Until a stimulus other than SET_BITS is applied, everything but the depth and its pens, the time and the stimuli still
pending is as at power-on (R34, R47; 40_palette.md R98). -/
def PristineUntilActive (s : State) : Prop :=
  s.active = false →
    s = { State.powerOn s.config s.dacBits with lastTime := s.lastTime, pending := s.pending }

/-- The last transition of the line is not later than the last stimulus, so a pulse width is never cut off at 0
(R41, R44; 42_keyboard_line.md R112). -/
def TransitionInPast (s : State) : Prop := s.lastChange ≤ s.lastTime

/-- What every step keeps. -/
structure Inv (s : State) : Prop where
  pens : PenTable s
  queue : QueueDiscipline s
  receiver : ReceiverShape s
  hidden : HiddenRegsZero s
  pristine : PristineUntilActive s
  past : TransitionInPast s
  configured : s.config.Valid

/-! ## Runs -/

/-- The states a machine can be in: power-on under an admissible configuration, deliveries by the environment, steps. -/
inductive Reachable : State → Prop where
  | powerOn (cfg : Config) (bits : BitDepth) (hv : cfg.Valid) (hb : BitDepth.ofNat? cfg.dacBits = some bits) :
      Reachable (State.powerOn cfg bits)
  | deliver (s : State) (l : List Stimulus) (h : Reachable s) : Reachable (s.deliverStimuli l)
  | step (s s' : State) (h : Reachable s) (hs : Sys2Proof.Machine.step s = .next s') : Reachable s'

/-- The timestamps of a sequence do not decrease, from a time on (00_scope.md R17). -/
def timesFrom : Nat → List Stimulus → Bool
  | _, [] => true
  | t, st :: rest => decide (t ≤ st.time) && timesFrom st.time rest

/-- Operations paired with their times, as stimuli. -/
def stimuliOf (l : List (Instr × Nat)) : List Stimulus := l.map fun p => ⟨encode p.1, p.2⟩

/-- A sequence of operations, each at a time of its own, in non-decreasing order from a time on (00_scope.md R17). -/
def TimedFrom (t : Nat) (ops : List Instr) (l : List (Instr × Nat)) : Prop :=
  l.map Prod.fst = ops ∧ timesFrom t (stimuliOf l) = true

/-! ## The two controllers -/

/-- A state with the palette controller's state taken from another (10_state.md R20, R23 to R33). -/
def State.withPaletteOf (s p : State) : State :=
  { s with
    regs := p.regs
    writeIndex := p.writeIndex
    readIndex := p.readIndex
    stage := p.stage
    writePhase := p.writePhase
    readPhase := p.readPhase
    pal := p.pal
    exposed := p.exposed
    dacBits := p.dacBits }

/-- A state with the keyboard controller's scan and transmit side taken from another (R35 to R39). -/
def State.withScanSideOf (s k : State) : State :=
  { s with
    scanPosition := k.scanPosition
    lastScan := k.lastScan
    txInFlight := k.txInFlight
    txQueue := k.txQueue }

/-- A state with the keyboard controller's receive side taken from another (R40 to R43). -/
def State.withLineSideOf (s k : State) : State :=
  { s with lineLevel := k.lineLevel, lastChange := k.lastChange, rx := k.rx }

/-- A state with the keyboard controller's state taken from another (R20). -/
def State.withKeyboardOf (s k : State) : State := (s.withScanSideOf k).withLineSideOf k

/-- An answer with its next state changed by a function, and a stop as it was. -/
def mapNext (f : State → State) : Host.Outcome State Fault Refusal → Host.Outcome State Fault Refusal
  | .next s => .next (f s)
  | .fault r => .fault r
  | .refused r => .refused r

/-- Column `c` is the lowest-numbered set bit of a byte (41_keyboard_scan.md R101, R102). -/
def IsLowest (x : Byte) (c : Column) : Prop :=
  x.getLsbD c.toNat = true ∧ ∀ j : Column, j < c → x.getLsbD j.toNat = false

/-! ## Outputs -/

/-- The outputs Deliver(byte, t) emits under a configuration (42_keyboard_line.md R119). -/
def clicksOf (cfg : Config) (b : Byte) (t : Nat) : List Output :=
  if b = cfg.clickCmd then [.toneClick t cfg.clickDuration] else []

/-- The scan bytes of every column in which a sample differs from a recorded row, lowest first (41_keyboard_scan.md R102). -/
def changeBytes (r : Row) (recorded sample : Byte) : List Byte :=
  ((List.finRange 8).filter fun j => (sample ^^^ recorded).getLsbD j.val).map fun j =>
    scanByte (sample.getLsbD j.val) r (BitVec.ofFin j)

/-- A scan byte handed to the Serial Framer. -/
def Output.isSubmit : Output → Bool
  | .txSubmit _ _ => true
  | _ => false

/-- How many scan bytes a history hands to the Serial Framer. -/
def submitCount (l : List Output) : Nat := l.countP Output.isSubmit

/-! ## The environment's duties (60_exceptions.md R139) -/

/-- What the environment knows beside the block: the submitted bytes it has not acknowledged, and the host line's level. -/
structure Environment where
  owed : Nat
  hostLevel : Bool
  deriving DecidableEq, Repr

/-- The duties R139 states of one stimulus: FRAMER_SENT only for a byte still owed; LINE_CHANGE only at a transition of the
host line; nothing later than a frame deadline that FRAME_TIMER or a transition has not met. The order of timestamps is
checked by the block itself; that a sample is the true one is not visible here. -/
def dutyAt (s : State) (env : Environment) (i : Instr) (t : Nat) : Bool :=
  (decide (i ≠ .framerSent) || decide (0 < env.owed)) &&
  (match i with | .lineChange l => decide (l ≠ env.hostLevel) | _ => true) &&
  (match s.frameDeadline with | some d => decide (t ≤ d) | none => true)

/-- The environment after a stimulus that took the block from `s` to `s'`. -/
def Environment.after (env : Environment) (i : Instr) (s s' : State) : Environment where
  owed := env.owed - (if i = .framerSent then 1 else 0) + (submitCount s'.outputs - submitCount s.outputs)
  hostLevel := match i with | .lineChange l => l | _ => env.hostLevel

/-- A sequence of stimuli, applied from a state, keeps the environment's duties, and where it leads. -/
def dutiesKept : List Stimulus → Environment → State → Option (Environment × State)
  | [], env, s => some (env, s)
  | st :: rest, env, s =>
    match decode st.word, applyStimulus st s with
    | .ok i, .next s' => if dutyAt s env i st.time then dutiesKept rest (env.after i s s') s' else none
    | _, _ => none

end Sys2Proof.Machine
end

