-- ==== Sys2Proof/Certificates/Slice0/Obligations.lean ====
section
/-! DEFINITION. The statements about the block, each with the rule of spec/ it states or rests on. -/

open Sys2Proof Sys2Proof.Machine

/-- Every row of R77 and every operand: no field of the layouts R67 to R69 is dropped. -/
def Obligations.EncodedOperationDecodesToItself : Prop :=
  ∀ i : Instr, i.WellFormed → decode (encode i) = .ok i

/-- The other direction of the round trip: the decoder reads every bit of the word. -/
def Obligations.DecodedWordIsTheEncodingOfItsOperation : Prop :=
  ∀ (w : Word) (i : Instr), decode w = .ok i → encode i = w ∧ i.WellFormed

/-- R77: the match and mask table, held against the decoder, which reads fields and not masks. -/
def Obligations.ExactlyOneRowMatchesAWordWithReservedFieldsZero : Prop :=
  ∀ w : Word, w.reservedZero = true →
    ∃ row i, opcodeMap.filter (fun r => r.selects w) = [row] ∧ decode w = .ok i ∧ row.owns i = true

/-- R78, with the reserved fields listed kind by kind in `Word.reservedZero`. -/
def Obligations.WordWithAReservedFieldSetMatchesNoRow : Prop :=
  ∀ w : Word, w.reservedZero = false →
    opcodeMap.filter (fun r => r.selects w) = [] ∧ decode w = .error .reservedField ∧
    ∀ (t : Nat) (s : State), applyStimulus ⟨w, t⟩ s = .refused .reservedField

/-- A sanity statement on fixed words of the spec's decode table. -/
def Obligations.SampleWordsDecodeAsListed : Prop :=
  decode 0x0100#16 = .ok .rdPdata ∧ decode 0x0500#16 = .ok (.rdReg4to7 5) ∧ decode 0x0F00#16 = .ok (.rdReg8to15 15) ∧
    decode 0x2F5A#16 = .ok (.wrReg8to15 15 0x5A) ∧ decode 0x45A3#16 = .ok (.scanTick 5 0xA3) ∧
    decode 0x6001#16 = .ok (.lineChange true) ∧ decode 0xE000#16 = .ok (.setBits .six) ∧
    decode 0xE001#16 = .ok (.setBits .eight) ∧ decode 0x1000#16 = .error .reservedField ∧
    decode 0x6003#16 = .error .reservedField

/-- R71, with the words written as numbers from the layout R67. -/
def Obligations.BusAddressSelectsExactlyOneOperation : Prop :=
  (∀ addr : Nat, (maskAddr addr).toNat = addr % 16) ∧
  ∀ (a : Addr4) (d : Byte),
    decode (BitVec.ofNat 16 (a.toNat * 256)) = .ok (
      if a = 0 then .rdWaddr else if a = 1 then .rdPdata else if a = 2 then .rdReg2 else if a = 3 then .rdRaddr
      else if a.toNat < 8 then .rdReg4to7 a else .rdReg8to15 a) ∧
    decode (BitVec.ofNat 16 (0x2000 + a.toNat * 256 + d.toNat)) = .ok (
      if a = 0 then .wrWaddr d else if a = 1 then .wrPdata d else if a = 2 then .wrReg2 d else if a = 3 then .wrRaddr d
      else if a.toNat < 8 then .wrReg4to7 a d else .wrReg8to15 a d)

/-- R18's prologue, in its order. `pending` is the model's own field (log 2). -/
def Obligations.StepRunsThePrologueThenTheDecodedOperation : Prop :=
  ∀ (s : State) (st : Stimulus) (rest : List Stimulus), s.pending = st :: rest →
    (st.word.reservedZero = false → step s = .refused .reservedField) ∧
    (st.word.reservedZero = true → st.time < s.lastTime → step s = .refused .outOfOrder) ∧
    (∀ i, decode st.word = .ok i → s.lastTime ≤ st.time →
      step s = exec i { s with
        pending := rest
        active := s.active || decide (i.kind ≠ .setBits)
        lastTime := st.time })

/-- R142: the block is always ready for the next stimulus, and all its state persists. -/
def Obligations.StepWithNothingPendingKeepsTheState : Prop :=
  ∀ s : State, s.pending = [] → step s = .next s

/-- R15's list, as an equivalence. That a step takes its stimulus from `pending`, and refuses nothing when that is empty, is the
model's choice (log 2). -/
def Obligations.ModelRefusesExactlyTheFourCases : Prop :=
  (∀ (s : State) (st : Stimulus) (rest : List Stimulus), s.pending = st :: rest →
      ((∃ r, step s = .refused r) ↔
        st.word.reservedZero = false ∨ st.time < s.lastTime ∨
        (∃ bits, decode st.word = .ok (.setBits bits)) ∧ s.active = true)) ∧
    (∀ s : State, s.pending = [] → ∀ r, step s ≠ .refused r) ∧
    (∀ cfg : Config, (∃ r, construct cfg = .refused r) ↔ cfg.dacBits ≠ 6 ∧ cfg.dacBits ≠ 8)

/-- R127: all operations are total; none can throw or abort. -/
def Obligations.EveryOperationCompletesAndNoneFaults : Prop :=
  (∀ (i : Instr) (s : State), (∀ bits, i = .setBits bits → s.active = false) → ∃ t, exec i s = .next t) ∧
    (∀ (s : State) (r : Fault), step s ≠ .fault r)

/-- R84 and R86. -/
def Obligations.CursorReadsReturnTheCursorAndChangeNothing : Prop :=
  encode .rdWaddr = 0x0000#16 ∧ encode .rdRaddr = 0x0300#16 ∧
    ∀ s : State,
      exec .rdWaddr s = .next { s with outputs := s.outputs ++ [.busData s.writeIndex] } ∧
      exec .rdRaddr s = .next { s with outputs := s.outputs ++ [.busData s.readIndex] }

/-- R85. -/
def Obligations.ReadPaletteDataReturnsTheStoredByteAndMovesTheReadCursor : Prop :=
  encode .rdPdata = 0x0100#16 ∧
    ∀ s : State, ∃ t, exec .rdPdata s = .next t ∧
      t = { s with
        readIndex := t.readIndex
        readPhase := t.readPhase
        outputs := s.outputs ++ [.busData (s.palByte s.readPhase s.readIndex)] } ∧
      t.readPhase.val = (s.readPhase.val + 1) % 3 ∧
      t.readIndex.toNat = if s.readPhase.val = 2 then (s.readIndex.toNat + 1) % 256 else s.readIndex.toNat

/-- R87, its three rows. -/
def Obligations.ReadRegisterReturnsItAndChangesNothing : Prop :=
  encode .rdReg2 = 0x0200#16 ∧
    (∀ a : Addr4, (encode (.rdReg4to7 a)).toNat = a.toNat * 256 ∧ (encode (.rdReg8to15 a)).toNat = a.toNat * 256) ∧
    ∀ (s : State) (a : Addr4),
      exec .rdReg2 s = .next { s with outputs := s.outputs ++ [.busData (s.reg 2)] } ∧
      exec (.rdReg4to7 a) s = .next { s with outputs := s.outputs ++ [.busData (s.reg a)] } ∧
      exec (.rdReg8to15 a) s = .next { s with outputs := s.outputs ++ [.busData (s.reg a)] }

/-- R88 and R92. -/
def Obligations.WriteIndexPortsSetACursorAndClearItsPhase : Prop :=
  ∀ (d : Byte) (s : State),
    (encode (.wrWaddr d)).toNat = 0x2000 + d.toNat ∧ (encode (.wrRaddr d)).toNat = 0x2300 + d.toNat ∧
    exec (.wrWaddr d) s = .next { s with writeIndex := d, writePhase := 0 } ∧
    exec (.wrRaddr d) s = .next { s with readIndex := d, readPhase := 0 }

/-- R93, its three rows. -/
def Obligations.WriteRegisterStoresTheByteAndNothingElse : Prop :=
  ∀ (s : State) (a : Addr4) (d : Byte),
    (encode (.wrReg2 d)).toNat = 0x2200 + d.toNat ∧
    (encode (.wrReg4to7 a d)).toNat = 0x2000 + a.toNat * 256 + d.toNat ∧
    (encode (.wrReg8to15 a d)).toNat = 0x2000 + a.toNat * 256 + d.toNat ∧
    (∃ t, exec (.wrReg2 d) s = .next t ∧ t = { s with regs := t.regs } ∧
      ∀ b, t.reg b = if b = 2 then d else s.reg b) ∧
    (∃ t, exec (.wrReg4to7 a d) s = .next t ∧ t = { s with regs := t.regs } ∧
      ∀ b, t.reg b = if b = a then d else s.reg b) ∧
    (∃ t, exec (.wrReg8to15 a d) s = .next t ∧ t = { s with regs := t.regs } ∧
      ∀ b, t.reg b = if b = a then d else s.reg b)

/-- R89's first branch. -/
def Obligations.WritePaletteDataFillsTheNextSlot : Prop :=
  ∀ (s : State) (d : Byte), s.writePhase ≠ 2 →
    (encode (.wrPdata d)).toNat = 0x2100 + d.toNat ∧
    ∃ t, exec (.wrPdata d) s = .next t ∧
      t = { s with stage := t.stage, writePhase := t.writePhase } ∧
      t.writePhase.val = s.writePhase.val + 1 ∧
      ∀ k : Channel, t.stage[k.val] = if k = s.writePhase then d else s.stage[k.val]

/-- R90's Commit, run by R89's second branch. -/
def Obligations.ThirdPaletteByteCommitsTheTriplet : Prop :=
  ∀ (s : State) (d : Byte), s.writePhase = 2 →
    ∃ t, exec (.wrPdata d) s = .next t ∧
      t = { s with
        stage := s.stage.set 2 d
        pal := t.pal
        exposed := t.exposed
        writeIndex := t.writeIndex
        writePhase := 0 } ∧
      t.writeIndex.toNat = (s.writeIndex.toNat + 1) % 256 ∧
      (∀ e, t.palByte 0 e = if e = s.writeIndex then s.stage[0] else s.palByte 0 e) ∧
      (∀ e, t.palByte 1 e = if e = s.writeIndex then s.stage[1] else s.palByte 1 e) ∧
      (∀ e, t.palByte 2 e = if e = s.writeIndex then d else s.palByte 2 e) ∧
      (∀ e, t.color e = if e = s.writeIndex then pen s.stage[0] s.stage[1] d s.dacBits else s.color e)

/-- R99, the source's first property, at whatever times its seven stimuli come. -/
def Obligations.PaletteRoundTripReturnsTheBytesWritten : Prop :=
  ∀ (s : State) (r g b : Byte) (l : List (Instr × Nat)), s.writePhase = 0 →
    TimedFrom s.lastTime
      [.wrPdata r, .wrPdata g, .wrPdata b, .wrRaddr s.writeIndex, .rdPdata, .rdPdata, .rdPdata] l →
    ∃ t, applyAll (stimuliOf l) s = .next t ∧
      t.outputs = s.outputs ++ [.busData r, .busData g, .busData b] ∧
      t.writeIndex.toNat = (s.writeIndex.toNat + 1) % 256

/-- R100, for every length and not only for multiples of three. -/
def Obligations.InterleavedTransfersAdvanceEachCursorAlone : Prop :=
  (∀ s t, exec .reset s = .next t → t.writeIndex = 0 ∧ t.readIndex = 0 ∧ t.writePhase = 0 ∧ t.readPhase = 0) ∧
    ∀ (s : State) (l : List (Instr × Nat)),
      s.writeIndex = 0 → s.readIndex = 0 → s.writePhase = 0 → s.readPhase = 0 →
      (∀ p ∈ l, p.1.leavesCursorsAlone = true ∧ p.1.WellFormed) → timesFrom s.lastTime (stimuliOf l) = true →
      ∃ t, applyAll (stimuliOf l) s = .next t ∧
        t.writeIndex.toNat = l.countP (fun p => p.1.isDataWrite) / 3 % 256 ∧
        t.writePhase.val = l.countP (fun p => p.1.isDataWrite) % 3 ∧
        t.readIndex.toNat = l.countP (fun p => p.1.isDataRead) / 3 % 256 ∧
        t.readPhase.val = l.countP (fun p => p.1.isDataRead) % 3

/-- R91's consequence, with the entries' contents. -/
def Obligations.ConsecutiveTripletsFillConsecutiveEntries : Prop :=
  ∀ (s : State) (colors : List (Byte × Byte × Byte)) (l : List (Instr × Nat)),
    s.writePhase = 0 → colors.length ≤ 256 → TimedFrom s.lastTime (writeTriplets colors) l →
    ∃ t, applyAll (stimuliOf l) s = .next t ∧
      t.writeIndex = s.writeIndex + BitVec.ofNat 8 colors.length ∧ t.writePhase = 0 ∧
      (∀ (k : Nat) (h : k < colors.length),
        t.palByte 0 (s.writeIndex + BitVec.ofNat 8 k) = colors[k].1 ∧
        t.palByte 1 (s.writeIndex + BitVec.ofNat 8 k) = colors[k].2.1 ∧
        t.palByte 2 (s.writeIndex + BitVec.ofNat 8 k) = colors[k].2.2) ∧
      (∀ (c : Channel) (e : Byte), (∀ k < colors.length, e ≠ s.writeIndex + BitVec.ofNat 8 k) →
        t.palByte c e = s.palByte c e)

/-- R88's corner case and R150. -/
def Obligations.WriteEntryCommitsAtItsEntryFromAnyPhase : Prop :=
  ∀ (s : State) (e r g b : Byte) (l : List (Instr × Nat)), TimedFrom s.lastTime (writeEntry e r g b) l →
    ∃ t, applyAll (stimuliOf l) s = .next t ∧
      t.writeIndex = e + 1 ∧ t.writePhase = 0 ∧
      (∀ c x, t.palByte c x = if x = e then (if c = 0 then r else if c = 1 then g else b) else s.palByte c x) ∧
      (∀ x, t.color x = if x = e then pen r g b s.dacBits else s.color x)

/-- R151: a WR_RADDR resynchronises the read triplet. -/
def Obligations.ReadEntryReturnsTheEntryFromAnyPhase : Prop :=
  ∀ (s : State) (e : Byte) (l : List (Instr × Nat)), TimedFrom s.lastTime (readEntry e) l →
    ∃ t, applyAll (stimuliOf l) s = .next t ∧
      t.outputs = s.outputs ++ [.busData (s.palByte 0 e), .busData (s.palByte 1 e), .busData (s.palByte 2 e)] ∧
      t.readIndex = e + 1 ∧ t.readPhase = 0 ∧ t.pal = s.pal ∧ t.writeIndex = s.writeIndex ∧ t.writePhase = s.writePhase

/-- R56's idempotent writes. -/
def Obligations.RepeatedIdempotentWriteChangesNothingMore : Prop :=
  ∀ (i : Instr) (s t : State), i.kind = .busWrite → i.isDataWrite = false → exec i s = .next t →
    ∀ now, exec i { t with lastTime := now } = .next { t with lastTime := now }

/-- R94. -/
def Obligations.DacKeepsTheSignificantBitsInPlace : Prop :=
  (∀ v : Byte, dac v .six = v &&& 0xFC#8 ∧ dac v .eight = v) ∧
    (∀ (v : Byte) (bits : BitDepth), (dac v bits).toNat = v.toNat &&& ((0xFF <<< (8 - bits.toNat)) &&& 0xFF)) ∧
    (∀ (r g b : Byte) (bits : BitDepth), pen r g b bits = ⟨dac r bits, dac g bits, dac b bits⟩)

/-- R53. -/
def Obligations.PackedColorPlacesRedInTheTopByte : Prop :=
  ∀ c : Color, c.packed.toNat = c.red.toNat * 65536 + c.green.toNat * 256 + c.blue.toNat

/-- R97. -/
def Obligations.SetBitsSetsTheDepthAndRecomputesEveryPen : Prop :=
  encode (.setBits .six) = 0xE000#16 ∧ encode (.setBits .eight) = 0xE001#16 ∧
    ∀ (bits : BitDepth) (s : State),
      (s.active = false → ∃ t, exec (.setBits bits) s = .next t ∧
        t = { s with dacBits := bits, exposed := t.exposed } ∧
        ∀ e, t.color e = pen (s.palByte 0 e) (s.palByte 1 e) (s.palByte 2 e) bits) ∧
      (s.active = true → exec (.setBits bits) s = .refused .setBitsAfterActive)

/-- R98 and R146. -/
def Obligations.ConstructionGivesThePowerOnState : Prop :=
  ∀ cfg : Config,
    (cfg.dacBits = 6 → construct cfg = .next (State.powerOn cfg .six)) ∧
    (cfg.dacBits = 8 → construct cfg = .next (State.powerOn cfg .eight)) ∧
    (cfg.dacBits ≠ 6 → cfg.dacBits ≠ 8 → construct cfg = .refused .badDacBits) ∧
    ∀ bits, exec .reset (State.powerOn cfg bits) = .next (State.powerOn cfg bits)

/-- R74. -/
def Obligations.ScanByteHoldsReleaseRowAndColumn : Prop :=
  ∀ (p : Bool) (r : Row) (c : Column),
    (scanByte p r c).toNat = (if p then 0 else 128) + 8 * r.toNat + c.toNat

/-- R101, every branch. -/
def Obligations.ScanTickReportsTheLowestChangedColumn : Prop :=
  ∀ (s : State) (r : Row) (sample : Byte),
    (encode (.scanTick r sample)).toNat = 0x4000 + 256 * r.toNat + sample.toNat ∧
    (sample = s.rowScan r → exec (.scanTick r sample) s = .next { s with scanPosition := r }) ∧
    ∀ c : Column, IsLowest (sample ^^^ s.rowScan r) c →
      (s.txInFlight = false → ∃ t, exec (.scanTick r sample) s = .next t ∧
        t = { s with
          scanPosition := r
          outputs := s.outputs ++ [.txSubmit (scanByte (sample.getLsbD c.toNat) r c) s.lastTime]
          txInFlight := true
          lastScan := t.lastScan } ∧
        ∀ (x : Row) (j : Column), (t.rowScan x).getLsbD j.toNat =
          if x = r ∧ j = c then sample.getLsbD c.toNat else (s.rowScan x).getLsbD j.toNat) ∧
      (s.txInFlight = true → s.txQueue.length < s.config.txqDepth → ∃ t, exec (.scanTick r sample) s = .next t ∧
        t = { s with
          scanPosition := r
          txQueue := s.txQueue ++ [scanByte (sample.getLsbD c.toNat) r c]
          lastScan := t.lastScan } ∧
        ∀ (x : Row) (j : Column), (t.rowScan x).getLsbD j.toNat =
          if x = r ∧ j = c then sample.getLsbD c.toNat else (s.rowScan x).getLsbD j.toNat) ∧
      (s.txInFlight = true → s.config.txqDepth ≤ s.txQueue.length →
        exec (.scanTick r sample) s = .next { s with scanPosition := r })

/-- R102: each other changed column is reported by a later tick, one per tick, lowest first. -/
def Obligations.EveryChangedColumnIsReportedOneTickEach : Prop :=
  ∀ (s : State) (r : Row) (sample : Byte) (now : Nat) (later : List (Instr × Nat)),
    TimedFrom s.lastTime (List.replicate 8 (.scanTick r sample)) ((.scanTick r sample, now) :: later) →
    s.txQueue.length + 8 ≤ s.config.txqDepth →
    ∃ t, applyAll (stimuliOf ((.scanTick r sample, now) :: later)) s = .next t ∧
      t.rowScan r = sample ∧ (∀ x, x ≠ r → t.rowScan x = s.rowScan x) ∧
      (s.txInFlight = true → t.txInFlight = true ∧ t.outputs = s.outputs ∧
        t.txQueue = s.txQueue ++ changeBytes r (s.rowScan r) sample) ∧
      (s.txInFlight = false →
        t.txInFlight = !(changeBytes r (s.rowScan r) sample).isEmpty ∧
        t.outputs = s.outputs ++ ((changeBytes r (s.rowScan r) sample).take 1).map (fun b => .txSubmit b now) ∧
        t.txQueue = s.txQueue ++ (changeBytes r (s.rowScan r) sample).drop 1)

/-- R104: the same change is detected again, and no change is lost while the key stays in its new state. -/
def Obligations.ChangeMetByAFullQueueIsReportedAtTheNextTickWithRoom : Prop :=
  ∀ (s : State) (r : Row) (sample : Byte) (c : Column) (t₁ t₂ t₃ : Nat),
    s.config.Valid → s.txInFlight = true → s.txQueue.length = s.config.txqDepth →
    IsLowest (sample ^^^ s.rowScan r) c → s.lastTime ≤ t₁ → t₁ ≤ t₂ → t₂ ≤ t₃ →
    ∃ u v w,
      applyStimulus ⟨encode (.scanTick r sample), t₁⟩ s = .next u ∧
      u = { s with active := true, lastTime := t₁, scanPosition := r } ∧
      applyStimulus ⟨encode .framerSent, t₂⟩ u = .next v ∧
      v.outputs = s.outputs ++ (s.txQueue.take 1).map (fun b => .txSubmit b t₂) ∧
      applyStimulus ⟨encode (.scanTick r sample), t₃⟩ v = .next w ∧
      w.outputs = v.outputs ∧
      w.txQueue = s.txQueue.tail ++ [scanByte (sample.getLsbD c.toNat) r c] ∧
      (w.rowScan r).getLsbD c.toNat = sample.getLsbD c.toNat

/-- R105 and R106. -/
def Obligations.FramerSentSubmitsTheNextByteOrClearsTheFlag : Prop :=
  encode .framerSent = 0x8000#16 ∧
    (∀ s : State, s.txInFlight = false → exec .framerSent s = .next s) ∧
    (∀ s : State, s.txInFlight = true → s.txQueue = [] → exec .framerSent s = .next { s with txInFlight := false }) ∧
    (∀ (s : State) (b : Byte) (rest : List Byte), s.txInFlight = true → s.txQueue = b :: rest →
      exec .framerSent s = .next { s with
        txQueue := rest
        outputs := s.outputs ++ [.txSubmit b s.lastTime] })

/-- R107. -/
def Obligations.AtMostOneSubmitWithoutAnAcknowledgement : Prop :=
  (∀ (l : List Stimulus) (s t : State),
      (∀ st ∈ l, decode st.word ≠ .ok .framerSent ∧ decode st.word ≠ .ok .reset) → applyAll l s = .next t →
      submitCount t.outputs ≤ submitCount s.outputs + 1 ∧
      (s.txInFlight = true → submitCount t.outputs = submitCount s.outputs) ∧
      (submitCount t.outputs = submitCount s.outputs + 1 → t.txInFlight = true)) ∧
    (∀ (s t : State) (r : Row) (sample : Byte), exec (.scanTick r sample) s = .next t →
      submitCount t.outputs + t.txQueue.length ≤ submitCount s.outputs + s.txQueue.length + 1)

/-- R109, the source's fifth property: one tick per row period, so each tick has its own time. -/
def Obligations.SingleHeldKeyIsReportedOnce : Prop :=
  ∀ (s u : State) (first : List (Instr × Nat)),
    exec .reset s = .next u →
    TimedFrom u.lastTime (scanCycle ((Vector.replicate 16 0#8).set 5 0x08#8)) first →
    ∃ v now, applyAll (stimuliOf first) u = .next v ∧
      (.scanTick 5 0x08#8, now) ∈ first ∧ v.outputs = u.outputs ++ [.txSubmit 0x2B#8 now] ∧
      ∀ second : List (Instr × Nat),
        TimedFrom v.lastTime (scanCycle ((Vector.replicate 16 0#8).set 5 0x08#8)) second →
        ∃ w, applyAll (stimuliOf second) v = .next w ∧ w.outputs = v.outputs

/-- R148: RESET sets every lastScan[r] to 0x00, and nothing but a tick of row r writes it afterwards. -/
def Obligations.KeyHeldAcrossResetIsReportedAgain : Prop :=
  ∀ (s : State) (r : Row) (sample : Byte) (c : Column) (t₀ t₁ : Nat) (l : List (Instr × Nat)),
    IsLowest sample c →
    (∀ p ∈ l, p.1.WellFormed ∧ p.1.kind ≠ .setBits ∧ p.1 ≠ .reset ∧ ∀ x, p.1 ≠ .scanTick r x) →
    timesFrom s.lastTime (stimuliOf ((.reset, t₀) :: (l ++ [(.scanTick r sample, t₁)]))) = true →
    ∃ u v, applyAll (stimuliOf ((.reset, t₀) :: l)) s = .next u ∧
      applyStimulus ⟨encode (.scanTick r sample), t₁⟩ u = .next v ∧
      (l = [] → u.txInFlight = false) ∧
      (u.txInFlight = false → v.outputs = u.outputs ++ [.txSubmit (scanByte true r c) t₁]) ∧
      (u.txInFlight = true → u.txQueue.length < u.config.txqDepth →
        v.outputs = u.outputs ∧ v.txQueue = u.txQueue ++ [scanByte true r c]) ∧
      (u.txInFlight = true → u.config.txqDepth ≤ u.txQueue.length →
        v.outputs = u.outputs ∧ v.txQueue = u.txQueue ∧ v.rowScan r = 0)

/-- R111, with the nearest multiple of the definition shown to be the only one. -/
def Obligations.PulseClassifierAnswersTheOneWholeNumberOfPeriods : Prop :=
  ∀ (cfg : Config) (e : Nat), cfg.Valid →
    (∀ k, classify cfg e = some k ↔
      1 ≤ k ∧ ((e : Int) - (k : Int) * (cfg.bitPeriod : Int)).natAbs ≤ cfg.bitTol) ∧
    (e + cfg.bitTol < cfg.bitPeriod → classify cfg e = none)

/-- R113. -/
def Obligations.LineReportOfTheCurrentLevelIsIgnored : Prop :=
  encode (.lineChange false) = 0x6000#16 ∧ encode (.lineChange true) = 0x6001#16 ∧
    ∀ s : State, exec (.lineChange s.lineLevel) s = .next s

/-- R114 and R115. -/
def Obligations.LineEdgesOutsideAFrame : Prop :=
  (∀ s : State, s.lineLevel = true → (s.rx = .idle ∨ ∃ shift, s.rx = .rx 0 shift) →
      exec (.lineChange false) s = .next { s with lineLevel := false, lastChange := s.lastTime, rx := .rx 0 0 }) ∧
    (∀ s : State, s.lineLevel = false → s.rx = .idle →
      exec (.lineChange true) s = .next { s with lineLevel := true, lastChange := s.lastTime })

/-- R116, with its decode failures (R118). -/
def Obligations.RisingEdgeInAFrameCountsLowBits : Prop :=
  ∀ (s : State) (pos : Nat) (shift : Byte), s.lineLevel = false → s.rx = .rx pos shift →
    (classify s.config (s.lastTime - s.lastChange) = none →
      exec (.lineChange true) s = .next { s with lineLevel := true, lastChange := s.lastTime, rx := .idle }) ∧
    ∀ k, classify s.config (s.lastTime - s.lastChange) = some k →
      (8 < pos + k - 1 →
        exec (.lineChange true) s = .next { s with lineLevel := true, lastChange := s.lastTime, rx := .idle }) ∧
      (pos + k - 1 ≤ 8 →
        exec (.lineChange true) s = .next
          { s with lineLevel := true, lastChange := s.lastTime, rx := .rx (pos + k) shift })

/-- R117, with Deliver as R119 and R120 say it and the decode failure of R118. -/
def Obligations.FallingEdgeInAFrameSetsOnesOrCompletesIt : Prop :=
  ∀ (s : State) (pos : Nat) (shift : Byte), s.lineLevel = true → s.rx = .rx pos shift → 1 ≤ pos →
    ((10 - pos) * s.config.bitPeriod ≤ s.lastTime - s.lastChange + s.config.bitTol →
      ∃ b : Byte, (∀ i < 8, b.getLsbD i = (shift.getLsbD i || decide (pos - 1 ≤ i))) ∧
        exec (.lineChange false) s = .next { s with
          lineLevel := false
          lastChange := s.lastTime
          rx := .rx 0 0
          outputs := s.outputs ++ clicksOf s.config b s.lastTime }) ∧
    (s.lastTime - s.lastChange + s.config.bitTol < (10 - pos) * s.config.bitPeriod →
      (classify s.config (s.lastTime - s.lastChange) = none →
        exec (.lineChange false) s = .next
          { s with lineLevel := false, lastChange := s.lastTime, rx := .idle }) ∧
      ∀ k, classify s.config (s.lastTime - s.lastChange) = some k →
        pos + k ≤ 9 ∧
        ∃ b : Byte, (∀ i < 8, b.getLsbD i = (shift.getLsbD i || decide (pos - 1 ≤ i ∧ i ≤ pos + k - 2))) ∧
          exec (.lineChange false) s = .next
            { s with lineLevel := false, lastChange := s.lastTime, rx := .rx (pos + k) b })

/-- R121. -/
def Obligations.FrameTimerCompletesAFrameAtItsDeadline : Prop :=
  encode .frameTimer = 0xA000#16 ∧
    (∀ (s : State) (pos : Nat) (shift : Byte), s.rx = .rx pos shift → 1 ≤ pos → s.lineLevel = true →
      (10 - pos) * s.config.bitPeriod ≤ s.lastTime - s.lastChange + s.config.bitTol →
      ∃ b : Byte, (∀ i < 8, b.getLsbD i = (shift.getLsbD i || decide (pos - 1 ≤ i))) ∧
        exec .frameTimer s = .next
          { s with rx := .idle, outputs := s.outputs ++ clicksOf s.config b s.lastTime }) ∧
    (∀ s : State,
      (∀ pos shift, s.rx = .rx pos shift → 1 ≤ pos → s.lineLevel = true →
        s.lastTime - s.lastChange + s.config.bitTol < (10 - pos) * s.config.bitPeriod) →
      exec .frameTimer s = .next s)

/-- R122's deadline against R121's condition, with the byte the completed frame delivers (R119). -/
def Obligations.FrameTimerActsExactlyFromTheFrameDeadline : Prop :=
  ∀ s : State, s.config.Valid → ReceiverShape s → TransitionInPast s →
    (s.frameDeadline = none → exec .frameTimer s = .next s) ∧
    ∀ d, s.frameDeadline = some d →
      (s.lastTime < d → exec .frameTimer s = .next s) ∧
      (d ≤ s.lastTime → ∃ (pos : Nat) (shift b : Byte), s.rx = .rx pos shift ∧
        (∀ i < 8, b.getLsbD i = (shift.getLsbD i || decide (pos - 1 ≤ i))) ∧
        exec .frameTimer s = .next
          { s with rx := .idle, outputs := s.outputs ++ clicksOf s.config b s.lastTime })

/-- R124, the source's sixth property. -/
def Obligations.NearZeroPulseDecodesNothing : Prop :=
  (∀ (s : State) (t1 t2 : Nat), s.rx = .idle → s.lineLevel = true → s.lastTime ≤ t1 → t1 ≤ t2 →
      t2 + s.config.bitTol < t1 + s.config.bitPeriod →
      ∃ u, applyAll [⟨encode (.lineChange false), t1⟩, ⟨encode (.lineChange true), t2⟩] s = .next u ∧
        u.rx = .idle ∧ u.outputs = s.outputs) ∧
    (∀ (s : State) (pos : Nat) (shift : Byte), s.rx = .rx pos shift → ReceiverShape s →
      s.lastTime - s.lastChange + s.config.bitTol < s.config.bitPeriod →
      ∃ u, exec (.lineChange (!s.lineLevel)) s = .next u ∧ u.rx = .idle ∧ u.outputs = s.outputs)

/-- R125. -/
def Obligations.FrameTimerAndFallingEdgeAgreeInEitherOrder : Prop :=
  ∀ (s : State) (now : Nat), s.lastTime ≤ now →
    applyAll [⟨encode .frameTimer, now⟩, ⟨encode (.lineChange false), now⟩] s =
      applyAll [⟨encode (.lineChange false), now⟩, ⟨encode .frameTimer, now⟩] s ∧
    ∀ pos shift, s.rx = .rx pos shift → 1 ≤ pos → s.lineLevel = true →
      (10 - pos) * s.config.bitPeriod ≤ now - s.lastChange + s.config.bitTol →
      ∃ u, applyAll [⟨encode .frameTimer, now⟩, ⟨encode (.lineChange false), now⟩] s = .next u ∧
        u.outputs = s.outputs ++ clicksOf s.config (completedByte pos shift) now ∧
        u.rx = .rx 0 0 ∧ u.lineLevel = false

/-- R123, over every byte, bit period and tolerance. -/
def Obligations.ExactFrameDeliversItsByte : Prop :=
  ∀ (s : State) (b : Byte) (t d : Nat), s.config.Valid → s.rx = .idle → s.lineLevel = true → s.lastTime ≤ t →
    t + 10 * s.config.bitPeriod - s.config.bitTol ≤ d →
    ∃ u v w, applyAll (frameEdges s.config t b) s = .next u ∧ u.outputs = s.outputs ∧
      applyStimulus ⟨encode .frameTimer, d⟩ u = .next v ∧ v.rx = .idle ∧
      v.outputs = s.outputs ++ clicksOf s.config b d ∧
      applyStimulus ⟨encode (.lineChange false), d⟩ u = .next w ∧ w.rx = .rx 0 0 ∧
      w.outputs = s.outputs ++ clicksOf s.config b d

/-- R143 and R144. -/
def Obligations.ResetSetsTheDefaultsAndKeepsThePalette : Prop :=
  encode .reset = 0xC000#16 ∧
    ∀ s : State, exec .reset s = .next { s with
      regs := Vector.replicate 16 0, writeIndex := 0, readIndex := 0, writePhase := 0, readPhase := 0
      stage := Vector.replicate 3 0, scanPosition := 0, lastScan := Vector.replicate 16 0
      txInFlight := false, txQueue := [], lineLevel := true, lastChange := s.lastTime, rx := .idle }

/-- R47's power-on column. -/
def Obligations.PowerOnStateHoldsTheValuesOfTheTable : Prop :=
  (∀ (cfg : Config) (bits : BitDepth) (s : State), s = State.powerOn cfg bits →
      (∀ a, s.reg a = 0) ∧ s.writeIndex = 0 ∧ s.readIndex = 0 ∧ s.stage = Vector.replicate 3 0 ∧ s.writePhase = 0 ∧
      s.readPhase = 0 ∧ s.pal = cfg.palPowerOn ∧ (∀ e, s.color e = s.penOf e) ∧ s.dacBits = bits ∧ s.active = false ∧
      s.scanPosition = 0 ∧ (∀ r, s.rowScan r = 0) ∧ s.txInFlight = false ∧ s.txQueue = [] ∧ s.lineLevel = true ∧
      s.lastChange = 0 ∧ s.rx = .idle ∧ s.lastTime = 0 ∧ s.outputs = []) ∧
    ∃ cfg bits, State.reset = State.powerOn cfg bits ∧ cfg.Valid ∧ BitDepth.ofNat? cfg.dacBits = some bits

/-- R20: BUS_READ, BUS_WRITE and SET_BITS act on PAL only; SCAN_TICK, LINE_CHANGE, FRAMER_SENT and FRAME_TIMER on KBD only. -/
def Obligations.PaletteAndKeyboardShareNoState : Prop :=
  (∀ (i : Instr) (s k : State), i.isPalette = true →
      exec i (s.withKeyboardOf k) = mapNext (fun t => t.withKeyboardOf k) (exec i s)) ∧
    (∀ (i : Instr) (s p : State), i.isKeyboard = true →
      exec i (s.withPaletteOf p) = mapNext (fun t => t.withPaletteOf p) (exec i s))

/-- R126. -/
def Obligations.ReceiveAndTransmitAreIndependent : Prop :=
  (∀ (i : Instr) (s k : State), (i.kind = .scanTick ∨ i.kind = .framerSent) →
      exec i (s.withLineSideOf k) = mapNext (fun t => t.withLineSideOf k) (exec i s)) ∧
    (∀ (i : Instr) (s k : State), (i.kind = .lineChange ∨ i.kind = .frameTimer) →
      exec i (s.withScanSideOf k) = mapNext (fun t => t.withScanSideOf k) (exec i s)) ∧
    (∀ (i : Instr) (s t : State), (i.kind = .lineChange ∨ i.kind = .frameTimer) → exec i s = .next t →
      submitCount t.outputs = submitCount s.outputs) ∧
    (∀ (i : Instr) (s t : State), (i.kind = .scanTick ∨ i.kind = .framerSent) → exec i s = .next t →
      ∀ (at' dur : Nat), t.outputs.count (.toneClick at' dur) = s.outputs.count (.toneClick at' dur))

/-- R23: opaque to this core beyond storage and read-back. -/
def Obligations.RegisterValuesAffectNothingElse : Prop :=
  ∀ (i : Instr) (s : State) (g : Vector Byte 16), i.isGeneralRegister = false → i ≠ .reset →
    exec i { s with regs := g } = mapNext (fun t => { t with regs := g }) (exec i s)

/-- The writers named by the rules of 10_state.md. `config` and `pending` ride in State by the model's choice (logs 1, 2);
`active` and `lastTime` are the prologue's (R18, log 5). -/
def Obligations.EachPieceOfStateHasOnlyItsWriters : Prop :=
  ∀ (i : Instr) (s t : State), exec i s = .next t →
    (t.regs ≠ s.regs → (i.kind = .busWrite ∧ i.isGeneralRegister = true) ∨ i = .reset) ∧
    (t.writeIndex ≠ s.writeIndex →
      (∃ d, i = .wrWaddr d) ∨ (i.isDataWrite = true ∧ s.writePhase = 2) ∨ i = .reset) ∧
    (t.readIndex ≠ s.readIndex → (∃ d, i = .wrRaddr d) ∨ (i = .rdPdata ∧ s.readPhase = 2) ∨ i = .reset) ∧
    (t.writePhase ≠ s.writePhase → i.isDataWrite = true ∨ (∃ d, i = .wrWaddr d) ∨ i = .reset) ∧
    (t.readPhase ≠ s.readPhase → i = .rdPdata ∨ (∃ d, i = .wrRaddr d) ∨ i = .reset) ∧
    (t.stage ≠ s.stage → i.isDataWrite = true ∨ i = .reset) ∧
    (t.pal ≠ s.pal → i.isDataWrite = true ∧ s.writePhase = 2) ∧
    (t.exposed ≠ s.exposed → (i.isDataWrite = true ∧ s.writePhase = 2) ∨ i.kind = .setBits) ∧
    (t.dacBits ≠ s.dacBits → i.kind = .setBits) ∧
    (t.scanPosition ≠ s.scanPosition ∨ t.lastScan ≠ s.lastScan → i.kind = .scanTick ∨ i = .reset) ∧
    (t.txInFlight ≠ s.txInFlight ∨ t.txQueue ≠ s.txQueue →
      i.kind = .scanTick ∨ i = .framerSent ∨ i = .reset) ∧
    (t.lineLevel ≠ s.lineLevel ∨ t.lastChange ≠ s.lastChange → i.kind = .lineChange ∨ i = .reset) ∧
    (t.rx ≠ s.rx → i.kind = .lineChange ∨ i = .frameTimer ∨ i = .reset) ∧
    (t.outputs ≠ s.outputs →
      i.kind = .busRead ∨ i.kind = .scanTick ∨ i = .framerSent ∨ i.kind = .lineChange ∨ i = .frameTimer) ∧
    (t.config = s.config ∧ t.active = s.active ∧ t.lastTime = s.lastTime ∧ t.pending = s.pending)

/-- R22, R34 and R45 for every step. -/
def Obligations.StepsKeepTheConfigurationAndExtendTheOutputs : Prop :=
  ∀ s t : State, step s = .next t →
    t.config = s.config ∧ (s.active = true → t.active = true) ∧ s.lastTime ≤ t.lastTime ∧
    ∃ o, t.outputs = s.outputs ++ o

/-- R82's one BusData and R83's none; the dispatch on the address is BusAddressSelectsExactlyOneOperation. -/
def Obligations.BusReadsEmitOneByteAndBusWritesNone : Prop :=
  (∀ (i : Instr) (s : State), i.kind = .busRead →
      ∃ t v, exec i s = .next t ∧ t.outputs = s.outputs ++ [.busData v]) ∧
    (∀ (i : Instr) (s : State), i.kind = .busWrite → ∃ t, exec i s = .next t ∧ t.outputs = s.outputs)

/-- One invariant of the rules R24, R32, R39 and R43 and of the model's own bookkeeping, kept by every stimulus. -/
def Obligations.StepKeepsTheInvariant : Prop :=
  ∀ s t : State, Inv s → step s = .next t → Inv t

/-- Where the induction over runs begins. -/
def Obligations.PowerOnHasTheInvariant : Prop :=
  (∀ (cfg : Config) (bits : BitDepth), cfg.Valid → Inv (State.powerOn cfg bits)) ∧ Inv State.reset

/-- R32, over every run: the deliveries of `Reachable` are the model's way for stimuli to arrive (log 2). -/
def Obligations.ReachableColorTableHoldsThePens : Prop :=
  ∀ s : State, Reachable s →
    ∀ e : Byte, s.color e = pen (s.palByte 0 e) (s.palByte 1 e) (s.palByte 2 e) s.dacBits

/-- R43, over every run: the deliveries of `Reachable` are the model's way for stimuli to arrive (log 2). -/
def Obligations.ReachableReceiverHasItsShape : Prop :=
  ∀ s : State, Reachable s → ∀ pos shift, s.rx = .rx pos shift →
    (pos = 0 → s.lineLevel = false ∧ shift = 0) ∧
    (1 ≤ pos → pos ≤ 9 ∧ ∀ i, pos - 1 ≤ i → i ≤ 7 → shift.getLsbD i = false)

/-- R39's invariant and R24's cells, over every run (deliveries: log 2). -/
def Obligations.ReachableQueueWaitsOnlyBehindAnOutstandingByte : Prop :=
  ∀ s : State, Reachable s →
    (s.txQueue ≠ [] → s.txInFlight = true) ∧ s.txQueue.length ≤ s.config.txqDepth ∧
    s.reg 0 = 0 ∧ s.reg 1 = 0 ∧ s.reg 3 = 0

/-- R46: the save-state must round-trip exactly. -/
def Obligations.SaveStateRoundTrips : Prop :=
  (∀ (s : State) (v : SaveState), (s.restore v).save = v) ∧
    (∀ s : State, PenTable s → s.restore s.save = s) ∧
    (∀ (s : State) (v : SaveState), PenTable (s.restore v) ∧
      (s.restore v).active = s.active ∧ (s.restore v).lastTime = s.lastTime ∧ (s.restore v).outputs = s.outputs ∧
      (s.restore v).config = s.config ∧ (s.restore v).pending = s.pending)

/-- R139's duty on FRAMER_SENT and R148's consequence. `dutiesKept` and its count of owed bytes are the model's rendering of
the duties (log 19). -/
def Obligations.OutstandingByteIsOwedAnAcknowledgement : Prop :=
  ∀ (l : List Stimulus) (env env' : Environment) (s s' : State),
    (s.txInFlight = true → 0 < env.owed) → dutiesKept l env s = some (env', s') →
    (s'.txInFlight = true → 0 < env'.owed)
end

