-- ==== Sys2Proof/Laws/Operands.lean ====
section
/-! SUPPORT. What each function of operands answers, said once. -/

namespace Sys2Proof

/-! ## Fields of a word -/

@[simp] theorem Kind.ofBits_bits (k : Kind) : Kind.ofBits k.bits = k := by cases k <;> rfl

@[simp] theorem Kind.bits_ofBits (b : BitVec 3) : (Kind.ofBits b).bits = b := by
  revert b; decide

@[simp] theorem BitDepth.ofBit_toBit (d : BitDepth) : BitDepth.ofBit d.toBit = d := by cases d <;> rfl

/-- The bits of a word made of its fields. -/
theorem wordOf_getLsbD (k : Kind) (h : BitVec 4) (l : Byte) (i : Nat) :
    (wordOf k h l).getLsbD i =
      if i < 8 then l.getLsbD i else if i < 12 then h.getLsbD (i - 8) else if i < 13 then false
      else k.bits.getLsbD (i - 13) := by
  change (BitVec.append (BitVec.append (BitVec.append k.bits 0#1) h) l).getLsbD i = _
  change (((k.bits ++ 0#1) ++ h) ++ l).getLsbD i = _
  rw [BitVec.getLsbD_append, BitVec.getLsbD_append, BitVec.getLsbD_append]
  by_cases h1 : i < 8
  · simp [h1]
  · by_cases h2 : i < 12
    · have : i - 8 < 4 := by omega
      simp [h1, h2, this]
    · have a : ¬ i - 8 < 4 := by omega
      by_cases h3 : i < 13
      · have b : i - 8 - 4 < 1 := by omega
        simp [h1, h2, h3, a, b]
      · have b : ¬ i - 8 - 4 < 1 := by omega
        have c : i - 8 - 4 - 1 = i - 13 := by omega
        simp [h1, h2, h3, a, b, c]

@[simp] theorem wordOf_kindField (k : Kind) (h : BitVec 4) (l : Byte) : (wordOf k h l).kindField = k.bits := by
  apply BitVec.eq_of_getLsbD_eq
  intro i hi
  have a : ¬ 13 + i < 8 := by omega
  have b : ¬ 13 + i < 12 := by omega
  have c : ¬ 13 + i < 13 := by omega
  rw [Word.kindField, BitVec.getLsbD_extractLsb', wordOf_getLsbD]
  simp [hi, a, b]

@[simp] theorem wordOf_reservedBit (k : Kind) (h : BitVec 4) (l : Byte) : (wordOf k h l).reservedBit = 0#1 := by
  apply BitVec.eq_of_getLsbD_eq
  intro i hi
  obtain rfl : i = 0 := by omega
  rw [Word.reservedBit, BitVec.getLsbD_extractLsb', wordOf_getLsbD]
  simp

@[simp] theorem wordOf_highField (k : Kind) (h : BitVec 4) (l : Byte) : (wordOf k h l).highField = h := by
  apply BitVec.eq_of_getLsbD_eq
  intro i hi
  have a : ¬ 8 + i < 8 := by omega
  have b : 8 + i < 12 := by omega
  rw [Word.highField, BitVec.getLsbD_extractLsb', wordOf_getLsbD]
  simp [hi, b]

@[simp] theorem wordOf_lowField (k : Kind) (h : BitVec 4) (l : Byte) : (wordOf k h l).lowField = l := by
  apply BitVec.eq_of_getLsbD_eq
  intro i hi
  rw [Word.lowField, BitVec.getLsbD_extractLsb', wordOf_getLsbD]
  simp [hi]

/-- A word whose bit 12 is 0 is made of its fields. -/
theorem wordOf_fields (w : Word) (h : w.reservedBit = 0#1) :
    wordOf (Kind.ofBits w.kindField) w.highField w.lowField = w := by
  have h12 : w.getLsbD 12 = false := by
    have h0 := congrArg (fun b : BitVec 1 => b.getLsbD 0) h
    simpa only [Word.reservedBit, BitVec.getLsbD_extractLsb', Nat.add_zero, Nat.lt_one_iff, decide_true, Bool.true_and,
      BitVec.getLsbD_zero] using h0
  apply BitVec.eq_of_getLsbD_eq
  intro i hi
  rw [wordOf_getLsbD, Kind.bits_ofBits, Word.lowField, Word.highField, Word.kindField, BitVec.getLsbD_extractLsb',
    BitVec.getLsbD_extractLsb', BitVec.getLsbD_extractLsb']
  by_cases h1 : i < 8
  · simp only [h1, if_true, decide_true, Bool.true_and, Nat.zero_add]
  · by_cases h2 : i < 12
    · have a : i - 8 < 4 := by omega
      have e : 8 + (i - 8) = i := by omega
      simp only [h1, h2, a, e, if_true, if_false, decide_true, Bool.true_and]
    · by_cases h3 : i < 13
      · obtain rfl : i = 12 := by omega
        simp only [h1, h2, h3, h12, if_true, if_false]
      · have a : i - 13 < 3 := by omega
        have e : 13 + (i - 13) = i := by omega
        simp only [h1, h2, h3, a, e, if_false, decide_true, Bool.true_and]

end Sys2Proof

namespace Sys2Proof.Machine

/-! ## The palette -/

@[simp] theorem dacMask_six : dacMask .six = 0xFC#8 := by decide

@[simp] theorem dacMask_eight : dacMask .eight = 0xFF#8 := by decide

@[simp] theorem nextPhase_zero : nextPhase 0 = 1 := rfl

@[simp] theorem nextPhase_one : nextPhase 1 = 2 := rfl

@[simp] theorem nextPhase_two : nextPhase 2 = 0 := rfl

/-- The pen table of a palette memory, entry by entry. -/
@[simp] theorem getElem_pensOf (pal : Vector (Vector Byte 256) 3) (bits : BitDepth) (e : Nat) (h : e < 256) :
    (pensOf pal bits)[e] = pen pal[0][e] pal[1][e] pal[2][e] bits := by
  unfold pensOf
  exact Vector.getElem_ofFn h

/-! ## The scanner -/

/-- The lowest column is none exactly when nothing changed. -/
theorem lowestColumn_eq_none (x : Byte) : lowestColumn x = none ↔ x = 0#8 := by
  revert x; decide +kernel

/-- The lowest column has its bit set. -/
theorem lowestColumn_bit (x : Byte) (c : Column) (h : lowestColumn x = some c) : x.getLsbD c.toNat = true := by
  revert x c; decide +kernel

/-- No column below the lowest has its bit set. -/
theorem lowestColumn_least (x : Byte) (c j : Column) (h : lowestColumn x = some c) (hj : j < c) :
    x.getLsbD j.toNat = false := by
  revert x c j; decide +kernel

/-- A byte with one column set reads as that column there and as before elsewhere. -/
theorem withColumn_getLsbD (x : Byte) (c j : Column) (p : Bool) :
    (withColumn x c p).getLsbD j.toNat = if j = c then p else x.getLsbD j.toNat := by
  revert x c j p; decide +kernel

/-! ## The receiver -/

/-- The bits of `ones i j`. -/
theorem ones_getLsbD (i j n : Nat) : (ones i j).getLsbD n = decide (n < 8 ∧ i ≤ n ∧ n ≤ j) := by
  unfold ones
  rw [BitVec.getLsbD_ofNat]
  by_cases hij : i ≤ j
  · have e : 2 ^ (j + 1) - 2 ^ i = (2 ^ (j + 1 - i) - 1) <<< i := by
      rw [Nat.shiftLeft_eq, Nat.sub_mul, one_mul, ← Nat.pow_add]
      congr 2; omega
    rw [e, Nat.testBit_shiftLeft, Nat.testBit_two_pow_sub_one]
    rw [Bool.eq_iff_iff]
    simp only [Bool.and_eq_true, decide_eq_true_eq]
    omega
  · have e : 2 ^ (j + 1) - 2 ^ i = 0 :=
      Nat.sub_eq_zero_of_le (Nat.pow_le_pow_right (by decide) (by omega))
    rw [e]
    have : ¬ (n < 8 ∧ i ≤ n ∧ n ≤ j) := by omega
    simp [this]

/-- What a classified width satisfies, whatever the configuration. -/
theorem classify_spec (cfg : Config) (e : Nat) (k : Nat) (h : classify cfg e = some k) :
    1 ≤ k ∧ e ≤ k * cfg.bitPeriod + cfg.bitTol ∧ k * cfg.bitPeriod ≤ e + cfg.bitTol := by
  simp only [classify] at h
  split at h
  · next hc => cases h; exact hc
  · cases h

/-- The deadline comparison on naturals. -/
theorem reachesStop_iff (cfg : Config) (pos : Nat) (e : Nat) :
    reachesStop cfg pos e = true ↔ (10 - pos) * cfg.bitPeriod ≤ e + cfg.bitTol := by
  rw [reachesStop, Config.frameBits, decide_eq_true_eq]

/-- A high run that has not reached the stop bit ends before it. -/
theorem classify_before_stop (cfg : Config) (pos k : Nat) (e : Nat) (hs : reachesStop cfg pos e = false)
    (hk : classify cfg e = some k) : pos + k ≤ 9 := by
  have h1 := (classify_spec cfg e k hk).2.2
  have h2 : ¬ (10 - pos) * cfg.bitPeriod ≤ e + cfg.bitTol := by
    rw [← reachesStop_iff, hs]; simp
  have h3 : k * cfg.bitPeriod < (10 - pos) * cfg.bitPeriod := by omega
  have h4 : k < 10 - pos := Nat.lt_of_mul_lt_mul_right h3
  omega

end Sys2Proof.Machine
end

