-- ==== Sys2Proof/Laws/State.lean ====
section
/-! SUPPORT. One lemma per field per single update of the state, each true by unfolding the update once. -/

namespace Sys2Proof.Machine

/-! ## emit -/

@[simp] theorem State.emit_regs (s : State) (o : Output) : (s.emit o).regs = s.regs := rfl
@[simp] theorem State.emit_writeIndex (s : State) (o : Output) : (s.emit o).writeIndex = s.writeIndex := rfl
@[simp] theorem State.emit_readIndex (s : State) (o : Output) : (s.emit o).readIndex = s.readIndex := rfl
@[simp] theorem State.emit_stage (s : State) (o : Output) : (s.emit o).stage = s.stage := rfl
@[simp] theorem State.emit_writePhase (s : State) (o : Output) : (s.emit o).writePhase = s.writePhase := rfl
@[simp] theorem State.emit_readPhase (s : State) (o : Output) : (s.emit o).readPhase = s.readPhase := rfl
@[simp] theorem State.emit_pal (s : State) (o : Output) : (s.emit o).pal = s.pal := rfl
@[simp] theorem State.emit_exposed (s : State) (o : Output) : (s.emit o).exposed = s.exposed := rfl
@[simp] theorem State.emit_dacBits (s : State) (o : Output) : (s.emit o).dacBits = s.dacBits := rfl
@[simp] theorem State.emit_active (s : State) (o : Output) : (s.emit o).active = s.active := rfl
@[simp] theorem State.emit_scanPosition (s : State) (o : Output) : (s.emit o).scanPosition = s.scanPosition := rfl
@[simp] theorem State.emit_lastScan (s : State) (o : Output) : (s.emit o).lastScan = s.lastScan := rfl
@[simp] theorem State.emit_txInFlight (s : State) (o : Output) : (s.emit o).txInFlight = s.txInFlight := rfl
@[simp] theorem State.emit_txQueue (s : State) (o : Output) : (s.emit o).txQueue = s.txQueue := rfl
@[simp] theorem State.emit_lineLevel (s : State) (o : Output) : (s.emit o).lineLevel = s.lineLevel := rfl
@[simp] theorem State.emit_lastChange (s : State) (o : Output) : (s.emit o).lastChange = s.lastChange := rfl
@[simp] theorem State.emit_rx (s : State) (o : Output) : (s.emit o).rx = s.rx := rfl
@[simp] theorem State.emit_lastTime (s : State) (o : Output) : (s.emit o).lastTime = s.lastTime := rfl
@[simp] theorem State.emit_outputs (s : State) (o : Output) : (s.emit o).outputs = s.outputs ++ [o] := rfl
@[simp] theorem State.emit_config (s : State) (o : Output) : (s.emit o).config = s.config := rfl
@[simp] theorem State.emit_pending (s : State) (o : Output) : (s.emit o).pending = s.pending := rfl

/-! ## setReg -/

@[simp] theorem State.setReg_regs (s : State) (a : Addr4) (v : Byte) : (s.setReg a v).regs = s.regs.set a.toNat v a.isLt := rfl
@[simp] theorem State.setReg_writeIndex (s : State) (a : Addr4) (v : Byte) : (s.setReg a v).writeIndex = s.writeIndex := rfl
@[simp] theorem State.setReg_readIndex (s : State) (a : Addr4) (v : Byte) : (s.setReg a v).readIndex = s.readIndex := rfl
@[simp] theorem State.setReg_stage (s : State) (a : Addr4) (v : Byte) : (s.setReg a v).stage = s.stage := rfl
@[simp] theorem State.setReg_writePhase (s : State) (a : Addr4) (v : Byte) : (s.setReg a v).writePhase = s.writePhase := rfl
@[simp] theorem State.setReg_readPhase (s : State) (a : Addr4) (v : Byte) : (s.setReg a v).readPhase = s.readPhase := rfl
@[simp] theorem State.setReg_pal (s : State) (a : Addr4) (v : Byte) : (s.setReg a v).pal = s.pal := rfl
@[simp] theorem State.setReg_exposed (s : State) (a : Addr4) (v : Byte) : (s.setReg a v).exposed = s.exposed := rfl
@[simp] theorem State.setReg_dacBits (s : State) (a : Addr4) (v : Byte) : (s.setReg a v).dacBits = s.dacBits := rfl
@[simp] theorem State.setReg_active (s : State) (a : Addr4) (v : Byte) : (s.setReg a v).active = s.active := rfl
@[simp] theorem State.setReg_scanPosition (s : State) (a : Addr4) (v : Byte) : (s.setReg a v).scanPosition = s.scanPosition := rfl
@[simp] theorem State.setReg_lastScan (s : State) (a : Addr4) (v : Byte) : (s.setReg a v).lastScan = s.lastScan := rfl
@[simp] theorem State.setReg_txInFlight (s : State) (a : Addr4) (v : Byte) : (s.setReg a v).txInFlight = s.txInFlight := rfl
@[simp] theorem State.setReg_txQueue (s : State) (a : Addr4) (v : Byte) : (s.setReg a v).txQueue = s.txQueue := rfl
@[simp] theorem State.setReg_lineLevel (s : State) (a : Addr4) (v : Byte) : (s.setReg a v).lineLevel = s.lineLevel := rfl
@[simp] theorem State.setReg_lastChange (s : State) (a : Addr4) (v : Byte) : (s.setReg a v).lastChange = s.lastChange := rfl
@[simp] theorem State.setReg_rx (s : State) (a : Addr4) (v : Byte) : (s.setReg a v).rx = s.rx := rfl
@[simp] theorem State.setReg_lastTime (s : State) (a : Addr4) (v : Byte) : (s.setReg a v).lastTime = s.lastTime := rfl
@[simp] theorem State.setReg_outputs (s : State) (a : Addr4) (v : Byte) : (s.setReg a v).outputs = s.outputs := rfl
@[simp] theorem State.setReg_config (s : State) (a : Addr4) (v : Byte) : (s.setReg a v).config = s.config := rfl
@[simp] theorem State.setReg_pending (s : State) (a : Addr4) (v : Byte) : (s.setReg a v).pending = s.pending := rfl

/-! ## setStage -/

@[simp] theorem State.setStage_regs (s : State) (k : Channel) (v : Byte) : (s.setStage k v).regs = s.regs := rfl
@[simp] theorem State.setStage_writeIndex (s : State) (k : Channel) (v : Byte) : (s.setStage k v).writeIndex = s.writeIndex := rfl
@[simp] theorem State.setStage_readIndex (s : State) (k : Channel) (v : Byte) : (s.setStage k v).readIndex = s.readIndex := rfl
@[simp] theorem State.setStage_stage (s : State) (k : Channel) (v : Byte) : (s.setStage k v).stage = s.stage.set k.val v := rfl
@[simp] theorem State.setStage_writePhase (s : State) (k : Channel) (v : Byte) : (s.setStage k v).writePhase = s.writePhase := rfl
@[simp] theorem State.setStage_readPhase (s : State) (k : Channel) (v : Byte) : (s.setStage k v).readPhase = s.readPhase := rfl
@[simp] theorem State.setStage_pal (s : State) (k : Channel) (v : Byte) : (s.setStage k v).pal = s.pal := rfl
@[simp] theorem State.setStage_exposed (s : State) (k : Channel) (v : Byte) : (s.setStage k v).exposed = s.exposed := rfl
@[simp] theorem State.setStage_dacBits (s : State) (k : Channel) (v : Byte) : (s.setStage k v).dacBits = s.dacBits := rfl
@[simp] theorem State.setStage_active (s : State) (k : Channel) (v : Byte) : (s.setStage k v).active = s.active := rfl
@[simp] theorem State.setStage_scanPosition (s : State) (k : Channel) (v : Byte) : (s.setStage k v).scanPosition = s.scanPosition := rfl
@[simp] theorem State.setStage_lastScan (s : State) (k : Channel) (v : Byte) : (s.setStage k v).lastScan = s.lastScan := rfl
@[simp] theorem State.setStage_txInFlight (s : State) (k : Channel) (v : Byte) : (s.setStage k v).txInFlight = s.txInFlight := rfl
@[simp] theorem State.setStage_txQueue (s : State) (k : Channel) (v : Byte) : (s.setStage k v).txQueue = s.txQueue := rfl
@[simp] theorem State.setStage_lineLevel (s : State) (k : Channel) (v : Byte) : (s.setStage k v).lineLevel = s.lineLevel := rfl
@[simp] theorem State.setStage_lastChange (s : State) (k : Channel) (v : Byte) : (s.setStage k v).lastChange = s.lastChange := rfl
@[simp] theorem State.setStage_rx (s : State) (k : Channel) (v : Byte) : (s.setStage k v).rx = s.rx := rfl
@[simp] theorem State.setStage_lastTime (s : State) (k : Channel) (v : Byte) : (s.setStage k v).lastTime = s.lastTime := rfl
@[simp] theorem State.setStage_outputs (s : State) (k : Channel) (v : Byte) : (s.setStage k v).outputs = s.outputs := rfl
@[simp] theorem State.setStage_config (s : State) (k : Channel) (v : Byte) : (s.setStage k v).config = s.config := rfl
@[simp] theorem State.setStage_pending (s : State) (k : Channel) (v : Byte) : (s.setStage k v).pending = s.pending := rfl

/-! ## setWriteCursor -/

@[simp] theorem State.setWriteCursor_regs (s : State) (e : Byte) (k : Channel) : (s.setWriteCursor e k).regs = s.regs := rfl
@[simp] theorem State.setWriteCursor_writeIndex (s : State) (e : Byte) (k : Channel) : (s.setWriteCursor e k).writeIndex = e := rfl
@[simp] theorem State.setWriteCursor_readIndex (s : State) (e : Byte) (k : Channel) : (s.setWriteCursor e k).readIndex = s.readIndex := rfl
@[simp] theorem State.setWriteCursor_stage (s : State) (e : Byte) (k : Channel) : (s.setWriteCursor e k).stage = s.stage := rfl
@[simp] theorem State.setWriteCursor_writePhase (s : State) (e : Byte) (k : Channel) : (s.setWriteCursor e k).writePhase = k := rfl
@[simp] theorem State.setWriteCursor_readPhase (s : State) (e : Byte) (k : Channel) : (s.setWriteCursor e k).readPhase = s.readPhase := rfl
@[simp] theorem State.setWriteCursor_pal (s : State) (e : Byte) (k : Channel) : (s.setWriteCursor e k).pal = s.pal := rfl
@[simp] theorem State.setWriteCursor_exposed (s : State) (e : Byte) (k : Channel) : (s.setWriteCursor e k).exposed = s.exposed := rfl
@[simp] theorem State.setWriteCursor_dacBits (s : State) (e : Byte) (k : Channel) : (s.setWriteCursor e k).dacBits = s.dacBits := rfl
@[simp] theorem State.setWriteCursor_active (s : State) (e : Byte) (k : Channel) : (s.setWriteCursor e k).active = s.active := rfl
@[simp] theorem State.setWriteCursor_scanPosition (s : State) (e : Byte) (k : Channel) : (s.setWriteCursor e k).scanPosition = s.scanPosition := rfl
@[simp] theorem State.setWriteCursor_lastScan (s : State) (e : Byte) (k : Channel) : (s.setWriteCursor e k).lastScan = s.lastScan := rfl
@[simp] theorem State.setWriteCursor_txInFlight (s : State) (e : Byte) (k : Channel) : (s.setWriteCursor e k).txInFlight = s.txInFlight := rfl
@[simp] theorem State.setWriteCursor_txQueue (s : State) (e : Byte) (k : Channel) : (s.setWriteCursor e k).txQueue = s.txQueue := rfl
@[simp] theorem State.setWriteCursor_lineLevel (s : State) (e : Byte) (k : Channel) : (s.setWriteCursor e k).lineLevel = s.lineLevel := rfl
@[simp] theorem State.setWriteCursor_lastChange (s : State) (e : Byte) (k : Channel) : (s.setWriteCursor e k).lastChange = s.lastChange := rfl
@[simp] theorem State.setWriteCursor_rx (s : State) (e : Byte) (k : Channel) : (s.setWriteCursor e k).rx = s.rx := rfl
@[simp] theorem State.setWriteCursor_lastTime (s : State) (e : Byte) (k : Channel) : (s.setWriteCursor e k).lastTime = s.lastTime := rfl
@[simp] theorem State.setWriteCursor_outputs (s : State) (e : Byte) (k : Channel) : (s.setWriteCursor e k).outputs = s.outputs := rfl
@[simp] theorem State.setWriteCursor_config (s : State) (e : Byte) (k : Channel) : (s.setWriteCursor e k).config = s.config := rfl
@[simp] theorem State.setWriteCursor_pending (s : State) (e : Byte) (k : Channel) : (s.setWriteCursor e k).pending = s.pending := rfl

/-! ## setReadCursor -/

@[simp] theorem State.setReadCursor_regs (s : State) (e : Byte) (k : Channel) : (s.setReadCursor e k).regs = s.regs := rfl
@[simp] theorem State.setReadCursor_writeIndex (s : State) (e : Byte) (k : Channel) : (s.setReadCursor e k).writeIndex = s.writeIndex := rfl
@[simp] theorem State.setReadCursor_readIndex (s : State) (e : Byte) (k : Channel) : (s.setReadCursor e k).readIndex = e := rfl
@[simp] theorem State.setReadCursor_stage (s : State) (e : Byte) (k : Channel) : (s.setReadCursor e k).stage = s.stage := rfl
@[simp] theorem State.setReadCursor_writePhase (s : State) (e : Byte) (k : Channel) : (s.setReadCursor e k).writePhase = s.writePhase := rfl
@[simp] theorem State.setReadCursor_readPhase (s : State) (e : Byte) (k : Channel) : (s.setReadCursor e k).readPhase = k := rfl
@[simp] theorem State.setReadCursor_pal (s : State) (e : Byte) (k : Channel) : (s.setReadCursor e k).pal = s.pal := rfl
@[simp] theorem State.setReadCursor_exposed (s : State) (e : Byte) (k : Channel) : (s.setReadCursor e k).exposed = s.exposed := rfl
@[simp] theorem State.setReadCursor_dacBits (s : State) (e : Byte) (k : Channel) : (s.setReadCursor e k).dacBits = s.dacBits := rfl
@[simp] theorem State.setReadCursor_active (s : State) (e : Byte) (k : Channel) : (s.setReadCursor e k).active = s.active := rfl
@[simp] theorem State.setReadCursor_scanPosition (s : State) (e : Byte) (k : Channel) : (s.setReadCursor e k).scanPosition = s.scanPosition := rfl
@[simp] theorem State.setReadCursor_lastScan (s : State) (e : Byte) (k : Channel) : (s.setReadCursor e k).lastScan = s.lastScan := rfl
@[simp] theorem State.setReadCursor_txInFlight (s : State) (e : Byte) (k : Channel) : (s.setReadCursor e k).txInFlight = s.txInFlight := rfl
@[simp] theorem State.setReadCursor_txQueue (s : State) (e : Byte) (k : Channel) : (s.setReadCursor e k).txQueue = s.txQueue := rfl
@[simp] theorem State.setReadCursor_lineLevel (s : State) (e : Byte) (k : Channel) : (s.setReadCursor e k).lineLevel = s.lineLevel := rfl
@[simp] theorem State.setReadCursor_lastChange (s : State) (e : Byte) (k : Channel) : (s.setReadCursor e k).lastChange = s.lastChange := rfl
@[simp] theorem State.setReadCursor_rx (s : State) (e : Byte) (k : Channel) : (s.setReadCursor e k).rx = s.rx := rfl
@[simp] theorem State.setReadCursor_lastTime (s : State) (e : Byte) (k : Channel) : (s.setReadCursor e k).lastTime = s.lastTime := rfl
@[simp] theorem State.setReadCursor_outputs (s : State) (e : Byte) (k : Channel) : (s.setReadCursor e k).outputs = s.outputs := rfl
@[simp] theorem State.setReadCursor_config (s : State) (e : Byte) (k : Channel) : (s.setReadCursor e k).config = s.config := rfl
@[simp] theorem State.setReadCursor_pending (s : State) (e : Byte) (k : Channel) : (s.setReadCursor e k).pending = s.pending := rfl

/-! ## setEntry -/

@[simp] theorem State.setEntry_regs (s : State) (e r g b : Byte) : (s.setEntry e r g b).regs = s.regs := rfl
@[simp] theorem State.setEntry_writeIndex (s : State) (e r g b : Byte) : (s.setEntry e r g b).writeIndex = s.writeIndex := rfl
@[simp] theorem State.setEntry_readIndex (s : State) (e r g b : Byte) : (s.setEntry e r g b).readIndex = s.readIndex := rfl
@[simp] theorem State.setEntry_stage (s : State) (e r g b : Byte) : (s.setEntry e r g b).stage = s.stage := rfl
@[simp] theorem State.setEntry_writePhase (s : State) (e r g b : Byte) : (s.setEntry e r g b).writePhase = s.writePhase := rfl
@[simp] theorem State.setEntry_readPhase (s : State) (e r g b : Byte) : (s.setEntry e r g b).readPhase = s.readPhase := rfl
@[simp] theorem State.setEntry_pal (s : State) (e r g b : Byte) : (s.setEntry e r g b).pal = #v[s.pal[0].set e.toNat r e.isLt, s.pal[1].set e.toNat g e.isLt, s.pal[2].set e.toNat b e.isLt] := rfl
@[simp] theorem State.setEntry_exposed (s : State) (e r g b : Byte) : (s.setEntry e r g b).exposed = s.exposed := rfl
@[simp] theorem State.setEntry_dacBits (s : State) (e r g b : Byte) : (s.setEntry e r g b).dacBits = s.dacBits := rfl
@[simp] theorem State.setEntry_active (s : State) (e r g b : Byte) : (s.setEntry e r g b).active = s.active := rfl
@[simp] theorem State.setEntry_scanPosition (s : State) (e r g b : Byte) : (s.setEntry e r g b).scanPosition = s.scanPosition := rfl
@[simp] theorem State.setEntry_lastScan (s : State) (e r g b : Byte) : (s.setEntry e r g b).lastScan = s.lastScan := rfl
@[simp] theorem State.setEntry_txInFlight (s : State) (e r g b : Byte) : (s.setEntry e r g b).txInFlight = s.txInFlight := rfl
@[simp] theorem State.setEntry_txQueue (s : State) (e r g b : Byte) : (s.setEntry e r g b).txQueue = s.txQueue := rfl
@[simp] theorem State.setEntry_lineLevel (s : State) (e r g b : Byte) : (s.setEntry e r g b).lineLevel = s.lineLevel := rfl
@[simp] theorem State.setEntry_lastChange (s : State) (e r g b : Byte) : (s.setEntry e r g b).lastChange = s.lastChange := rfl
@[simp] theorem State.setEntry_rx (s : State) (e r g b : Byte) : (s.setEntry e r g b).rx = s.rx := rfl
@[simp] theorem State.setEntry_lastTime (s : State) (e r g b : Byte) : (s.setEntry e r g b).lastTime = s.lastTime := rfl
@[simp] theorem State.setEntry_outputs (s : State) (e r g b : Byte) : (s.setEntry e r g b).outputs = s.outputs := rfl
@[simp] theorem State.setEntry_config (s : State) (e r g b : Byte) : (s.setEntry e r g b).config = s.config := rfl
@[simp] theorem State.setEntry_pending (s : State) (e r g b : Byte) : (s.setEntry e r g b).pending = s.pending := rfl

/-! ## updatePen -/

@[simp] theorem State.updatePen_regs (s : State) (e : Byte) : (s.updatePen e).regs = s.regs := rfl
@[simp] theorem State.updatePen_writeIndex (s : State) (e : Byte) : (s.updatePen e).writeIndex = s.writeIndex := rfl
@[simp] theorem State.updatePen_readIndex (s : State) (e : Byte) : (s.updatePen e).readIndex = s.readIndex := rfl
@[simp] theorem State.updatePen_stage (s : State) (e : Byte) : (s.updatePen e).stage = s.stage := rfl
@[simp] theorem State.updatePen_writePhase (s : State) (e : Byte) : (s.updatePen e).writePhase = s.writePhase := rfl
@[simp] theorem State.updatePen_readPhase (s : State) (e : Byte) : (s.updatePen e).readPhase = s.readPhase := rfl
@[simp] theorem State.updatePen_pal (s : State) (e : Byte) : (s.updatePen e).pal = s.pal := rfl
@[simp] theorem State.updatePen_exposed (s : State) (e : Byte) : (s.updatePen e).exposed = s.exposed.set e.toNat (s.penOf e) e.isLt := rfl
@[simp] theorem State.updatePen_dacBits (s : State) (e : Byte) : (s.updatePen e).dacBits = s.dacBits := rfl
@[simp] theorem State.updatePen_active (s : State) (e : Byte) : (s.updatePen e).active = s.active := rfl
@[simp] theorem State.updatePen_scanPosition (s : State) (e : Byte) : (s.updatePen e).scanPosition = s.scanPosition := rfl
@[simp] theorem State.updatePen_lastScan (s : State) (e : Byte) : (s.updatePen e).lastScan = s.lastScan := rfl
@[simp] theorem State.updatePen_txInFlight (s : State) (e : Byte) : (s.updatePen e).txInFlight = s.txInFlight := rfl
@[simp] theorem State.updatePen_txQueue (s : State) (e : Byte) : (s.updatePen e).txQueue = s.txQueue := rfl
@[simp] theorem State.updatePen_lineLevel (s : State) (e : Byte) : (s.updatePen e).lineLevel = s.lineLevel := rfl
@[simp] theorem State.updatePen_lastChange (s : State) (e : Byte) : (s.updatePen e).lastChange = s.lastChange := rfl
@[simp] theorem State.updatePen_rx (s : State) (e : Byte) : (s.updatePen e).rx = s.rx := rfl
@[simp] theorem State.updatePen_lastTime (s : State) (e : Byte) : (s.updatePen e).lastTime = s.lastTime := rfl
@[simp] theorem State.updatePen_outputs (s : State) (e : Byte) : (s.updatePen e).outputs = s.outputs := rfl
@[simp] theorem State.updatePen_config (s : State) (e : Byte) : (s.updatePen e).config = s.config := rfl
@[simp] theorem State.updatePen_pending (s : State) (e : Byte) : (s.updatePen e).pending = s.pending := rfl

/-! ## setDepth -/

@[simp] theorem State.setDepth_regs (s : State) (bits : BitDepth) : (s.setDepth bits).regs = s.regs := rfl
@[simp] theorem State.setDepth_writeIndex (s : State) (bits : BitDepth) : (s.setDepth bits).writeIndex = s.writeIndex := rfl
@[simp] theorem State.setDepth_readIndex (s : State) (bits : BitDepth) : (s.setDepth bits).readIndex = s.readIndex := rfl
@[simp] theorem State.setDepth_stage (s : State) (bits : BitDepth) : (s.setDepth bits).stage = s.stage := rfl
@[simp] theorem State.setDepth_writePhase (s : State) (bits : BitDepth) : (s.setDepth bits).writePhase = s.writePhase := rfl
@[simp] theorem State.setDepth_readPhase (s : State) (bits : BitDepth) : (s.setDepth bits).readPhase = s.readPhase := rfl
@[simp] theorem State.setDepth_pal (s : State) (bits : BitDepth) : (s.setDepth bits).pal = s.pal := rfl
@[simp] theorem State.setDepth_exposed (s : State) (bits : BitDepth) : (s.setDepth bits).exposed = pensOf s.pal bits := rfl
@[simp] theorem State.setDepth_dacBits (s : State) (bits : BitDepth) : (s.setDepth bits).dacBits = bits := rfl
@[simp] theorem State.setDepth_active (s : State) (bits : BitDepth) : (s.setDepth bits).active = s.active := rfl
@[simp] theorem State.setDepth_scanPosition (s : State) (bits : BitDepth) : (s.setDepth bits).scanPosition = s.scanPosition := rfl
@[simp] theorem State.setDepth_lastScan (s : State) (bits : BitDepth) : (s.setDepth bits).lastScan = s.lastScan := rfl
@[simp] theorem State.setDepth_txInFlight (s : State) (bits : BitDepth) : (s.setDepth bits).txInFlight = s.txInFlight := rfl
@[simp] theorem State.setDepth_txQueue (s : State) (bits : BitDepth) : (s.setDepth bits).txQueue = s.txQueue := rfl
@[simp] theorem State.setDepth_lineLevel (s : State) (bits : BitDepth) : (s.setDepth bits).lineLevel = s.lineLevel := rfl
@[simp] theorem State.setDepth_lastChange (s : State) (bits : BitDepth) : (s.setDepth bits).lastChange = s.lastChange := rfl
@[simp] theorem State.setDepth_rx (s : State) (bits : BitDepth) : (s.setDepth bits).rx = s.rx := rfl
@[simp] theorem State.setDepth_lastTime (s : State) (bits : BitDepth) : (s.setDepth bits).lastTime = s.lastTime := rfl
@[simp] theorem State.setDepth_outputs (s : State) (bits : BitDepth) : (s.setDepth bits).outputs = s.outputs := rfl
@[simp] theorem State.setDepth_config (s : State) (bits : BitDepth) : (s.setDepth bits).config = s.config := rfl
@[simp] theorem State.setDepth_pending (s : State) (bits : BitDepth) : (s.setDepth bits).pending = s.pending := rfl

/-! ## setScanPosition -/

@[simp] theorem State.setScanPosition_regs (s : State) (r : Row) : (s.setScanPosition r).regs = s.regs := rfl
@[simp] theorem State.setScanPosition_writeIndex (s : State) (r : Row) : (s.setScanPosition r).writeIndex = s.writeIndex := rfl
@[simp] theorem State.setScanPosition_readIndex (s : State) (r : Row) : (s.setScanPosition r).readIndex = s.readIndex := rfl
@[simp] theorem State.setScanPosition_stage (s : State) (r : Row) : (s.setScanPosition r).stage = s.stage := rfl
@[simp] theorem State.setScanPosition_writePhase (s : State) (r : Row) : (s.setScanPosition r).writePhase = s.writePhase := rfl
@[simp] theorem State.setScanPosition_readPhase (s : State) (r : Row) : (s.setScanPosition r).readPhase = s.readPhase := rfl
@[simp] theorem State.setScanPosition_pal (s : State) (r : Row) : (s.setScanPosition r).pal = s.pal := rfl
@[simp] theorem State.setScanPosition_exposed (s : State) (r : Row) : (s.setScanPosition r).exposed = s.exposed := rfl
@[simp] theorem State.setScanPosition_dacBits (s : State) (r : Row) : (s.setScanPosition r).dacBits = s.dacBits := rfl
@[simp] theorem State.setScanPosition_active (s : State) (r : Row) : (s.setScanPosition r).active = s.active := rfl
@[simp] theorem State.setScanPosition_scanPosition (s : State) (r : Row) : (s.setScanPosition r).scanPosition = r := rfl
@[simp] theorem State.setScanPosition_lastScan (s : State) (r : Row) : (s.setScanPosition r).lastScan = s.lastScan := rfl
@[simp] theorem State.setScanPosition_txInFlight (s : State) (r : Row) : (s.setScanPosition r).txInFlight = s.txInFlight := rfl
@[simp] theorem State.setScanPosition_txQueue (s : State) (r : Row) : (s.setScanPosition r).txQueue = s.txQueue := rfl
@[simp] theorem State.setScanPosition_lineLevel (s : State) (r : Row) : (s.setScanPosition r).lineLevel = s.lineLevel := rfl
@[simp] theorem State.setScanPosition_lastChange (s : State) (r : Row) : (s.setScanPosition r).lastChange = s.lastChange := rfl
@[simp] theorem State.setScanPosition_rx (s : State) (r : Row) : (s.setScanPosition r).rx = s.rx := rfl
@[simp] theorem State.setScanPosition_lastTime (s : State) (r : Row) : (s.setScanPosition r).lastTime = s.lastTime := rfl
@[simp] theorem State.setScanPosition_outputs (s : State) (r : Row) : (s.setScanPosition r).outputs = s.outputs := rfl
@[simp] theorem State.setScanPosition_config (s : State) (r : Row) : (s.setScanPosition r).config = s.config := rfl
@[simp] theorem State.setScanPosition_pending (s : State) (r : Row) : (s.setScanPosition r).pending = s.pending := rfl

/-! ## recordKey -/

@[simp] theorem State.recordKey_regs (s : State) (r : Row) (c : Column) (p : Bool) : (s.recordKey r c p).regs = s.regs := rfl
@[simp] theorem State.recordKey_writeIndex (s : State) (r : Row) (c : Column) (p : Bool) : (s.recordKey r c p).writeIndex = s.writeIndex := rfl
@[simp] theorem State.recordKey_readIndex (s : State) (r : Row) (c : Column) (p : Bool) : (s.recordKey r c p).readIndex = s.readIndex := rfl
@[simp] theorem State.recordKey_stage (s : State) (r : Row) (c : Column) (p : Bool) : (s.recordKey r c p).stage = s.stage := rfl
@[simp] theorem State.recordKey_writePhase (s : State) (r : Row) (c : Column) (p : Bool) : (s.recordKey r c p).writePhase = s.writePhase := rfl
@[simp] theorem State.recordKey_readPhase (s : State) (r : Row) (c : Column) (p : Bool) : (s.recordKey r c p).readPhase = s.readPhase := rfl
@[simp] theorem State.recordKey_pal (s : State) (r : Row) (c : Column) (p : Bool) : (s.recordKey r c p).pal = s.pal := rfl
@[simp] theorem State.recordKey_exposed (s : State) (r : Row) (c : Column) (p : Bool) : (s.recordKey r c p).exposed = s.exposed := rfl
@[simp] theorem State.recordKey_dacBits (s : State) (r : Row) (c : Column) (p : Bool) : (s.recordKey r c p).dacBits = s.dacBits := rfl
@[simp] theorem State.recordKey_active (s : State) (r : Row) (c : Column) (p : Bool) : (s.recordKey r c p).active = s.active := rfl
@[simp] theorem State.recordKey_scanPosition (s : State) (r : Row) (c : Column) (p : Bool) : (s.recordKey r c p).scanPosition = s.scanPosition := rfl
@[simp] theorem State.recordKey_lastScan (s : State) (r : Row) (c : Column) (p : Bool) : (s.recordKey r c p).lastScan = s.lastScan.set r.toNat (withColumn (s.rowScan r) c p) r.isLt := rfl
@[simp] theorem State.recordKey_txInFlight (s : State) (r : Row) (c : Column) (p : Bool) : (s.recordKey r c p).txInFlight = s.txInFlight := rfl
@[simp] theorem State.recordKey_txQueue (s : State) (r : Row) (c : Column) (p : Bool) : (s.recordKey r c p).txQueue = s.txQueue := rfl
@[simp] theorem State.recordKey_lineLevel (s : State) (r : Row) (c : Column) (p : Bool) : (s.recordKey r c p).lineLevel = s.lineLevel := rfl
@[simp] theorem State.recordKey_lastChange (s : State) (r : Row) (c : Column) (p : Bool) : (s.recordKey r c p).lastChange = s.lastChange := rfl
@[simp] theorem State.recordKey_rx (s : State) (r : Row) (c : Column) (p : Bool) : (s.recordKey r c p).rx = s.rx := rfl
@[simp] theorem State.recordKey_lastTime (s : State) (r : Row) (c : Column) (p : Bool) : (s.recordKey r c p).lastTime = s.lastTime := rfl
@[simp] theorem State.recordKey_outputs (s : State) (r : Row) (c : Column) (p : Bool) : (s.recordKey r c p).outputs = s.outputs := rfl
@[simp] theorem State.recordKey_config (s : State) (r : Row) (c : Column) (p : Bool) : (s.recordKey r c p).config = s.config := rfl
@[simp] theorem State.recordKey_pending (s : State) (r : Row) (c : Column) (p : Bool) : (s.recordKey r c p).pending = s.pending := rfl

/-! ## submit -/

@[simp] theorem State.submit_regs (s : State) (b : Byte) : (s.submit b).regs = s.regs := rfl
@[simp] theorem State.submit_writeIndex (s : State) (b : Byte) : (s.submit b).writeIndex = s.writeIndex := rfl
@[simp] theorem State.submit_readIndex (s : State) (b : Byte) : (s.submit b).readIndex = s.readIndex := rfl
@[simp] theorem State.submit_stage (s : State) (b : Byte) : (s.submit b).stage = s.stage := rfl
@[simp] theorem State.submit_writePhase (s : State) (b : Byte) : (s.submit b).writePhase = s.writePhase := rfl
@[simp] theorem State.submit_readPhase (s : State) (b : Byte) : (s.submit b).readPhase = s.readPhase := rfl
@[simp] theorem State.submit_pal (s : State) (b : Byte) : (s.submit b).pal = s.pal := rfl
@[simp] theorem State.submit_exposed (s : State) (b : Byte) : (s.submit b).exposed = s.exposed := rfl
@[simp] theorem State.submit_dacBits (s : State) (b : Byte) : (s.submit b).dacBits = s.dacBits := rfl
@[simp] theorem State.submit_active (s : State) (b : Byte) : (s.submit b).active = s.active := rfl
@[simp] theorem State.submit_scanPosition (s : State) (b : Byte) : (s.submit b).scanPosition = s.scanPosition := rfl
@[simp] theorem State.submit_lastScan (s : State) (b : Byte) : (s.submit b).lastScan = s.lastScan := rfl
@[simp] theorem State.submit_txInFlight (s : State) (b : Byte) : (s.submit b).txInFlight = true := rfl
@[simp] theorem State.submit_txQueue (s : State) (b : Byte) : (s.submit b).txQueue = s.txQueue := rfl
@[simp] theorem State.submit_lineLevel (s : State) (b : Byte) : (s.submit b).lineLevel = s.lineLevel := rfl
@[simp] theorem State.submit_lastChange (s : State) (b : Byte) : (s.submit b).lastChange = s.lastChange := rfl
@[simp] theorem State.submit_rx (s : State) (b : Byte) : (s.submit b).rx = s.rx := rfl
@[simp] theorem State.submit_lastTime (s : State) (b : Byte) : (s.submit b).lastTime = s.lastTime := rfl
@[simp] theorem State.submit_outputs (s : State) (b : Byte) : (s.submit b).outputs = s.outputs ++ [.txSubmit b s.lastTime] := rfl
@[simp] theorem State.submit_config (s : State) (b : Byte) : (s.submit b).config = s.config := rfl
@[simp] theorem State.submit_pending (s : State) (b : Byte) : (s.submit b).pending = s.pending := rfl

/-! ## enqueue -/

@[simp] theorem State.enqueue_regs (s : State) (b : Byte) : (s.enqueue b).regs = s.regs := rfl
@[simp] theorem State.enqueue_writeIndex (s : State) (b : Byte) : (s.enqueue b).writeIndex = s.writeIndex := rfl
@[simp] theorem State.enqueue_readIndex (s : State) (b : Byte) : (s.enqueue b).readIndex = s.readIndex := rfl
@[simp] theorem State.enqueue_stage (s : State) (b : Byte) : (s.enqueue b).stage = s.stage := rfl
@[simp] theorem State.enqueue_writePhase (s : State) (b : Byte) : (s.enqueue b).writePhase = s.writePhase := rfl
@[simp] theorem State.enqueue_readPhase (s : State) (b : Byte) : (s.enqueue b).readPhase = s.readPhase := rfl
@[simp] theorem State.enqueue_pal (s : State) (b : Byte) : (s.enqueue b).pal = s.pal := rfl
@[simp] theorem State.enqueue_exposed (s : State) (b : Byte) : (s.enqueue b).exposed = s.exposed := rfl
@[simp] theorem State.enqueue_dacBits (s : State) (b : Byte) : (s.enqueue b).dacBits = s.dacBits := rfl
@[simp] theorem State.enqueue_active (s : State) (b : Byte) : (s.enqueue b).active = s.active := rfl
@[simp] theorem State.enqueue_scanPosition (s : State) (b : Byte) : (s.enqueue b).scanPosition = s.scanPosition := rfl
@[simp] theorem State.enqueue_lastScan (s : State) (b : Byte) : (s.enqueue b).lastScan = s.lastScan := rfl
@[simp] theorem State.enqueue_txInFlight (s : State) (b : Byte) : (s.enqueue b).txInFlight = s.txInFlight := rfl
@[simp] theorem State.enqueue_txQueue (s : State) (b : Byte) : (s.enqueue b).txQueue = s.txQueue ++ [b] := rfl
@[simp] theorem State.enqueue_lineLevel (s : State) (b : Byte) : (s.enqueue b).lineLevel = s.lineLevel := rfl
@[simp] theorem State.enqueue_lastChange (s : State) (b : Byte) : (s.enqueue b).lastChange = s.lastChange := rfl
@[simp] theorem State.enqueue_rx (s : State) (b : Byte) : (s.enqueue b).rx = s.rx := rfl
@[simp] theorem State.enqueue_lastTime (s : State) (b : Byte) : (s.enqueue b).lastTime = s.lastTime := rfl
@[simp] theorem State.enqueue_outputs (s : State) (b : Byte) : (s.enqueue b).outputs = s.outputs := rfl
@[simp] theorem State.enqueue_config (s : State) (b : Byte) : (s.enqueue b).config = s.config := rfl
@[simp] theorem State.enqueue_pending (s : State) (b : Byte) : (s.enqueue b).pending = s.pending := rfl

/-! ## setTx -/

@[simp] theorem State.setTx_regs (s : State) (f : Bool) (q : List Byte) : (s.setTx f q).regs = s.regs := rfl
@[simp] theorem State.setTx_writeIndex (s : State) (f : Bool) (q : List Byte) : (s.setTx f q).writeIndex = s.writeIndex := rfl
@[simp] theorem State.setTx_readIndex (s : State) (f : Bool) (q : List Byte) : (s.setTx f q).readIndex = s.readIndex := rfl
@[simp] theorem State.setTx_stage (s : State) (f : Bool) (q : List Byte) : (s.setTx f q).stage = s.stage := rfl
@[simp] theorem State.setTx_writePhase (s : State) (f : Bool) (q : List Byte) : (s.setTx f q).writePhase = s.writePhase := rfl
@[simp] theorem State.setTx_readPhase (s : State) (f : Bool) (q : List Byte) : (s.setTx f q).readPhase = s.readPhase := rfl
@[simp] theorem State.setTx_pal (s : State) (f : Bool) (q : List Byte) : (s.setTx f q).pal = s.pal := rfl
@[simp] theorem State.setTx_exposed (s : State) (f : Bool) (q : List Byte) : (s.setTx f q).exposed = s.exposed := rfl
@[simp] theorem State.setTx_dacBits (s : State) (f : Bool) (q : List Byte) : (s.setTx f q).dacBits = s.dacBits := rfl
@[simp] theorem State.setTx_active (s : State) (f : Bool) (q : List Byte) : (s.setTx f q).active = s.active := rfl
@[simp] theorem State.setTx_scanPosition (s : State) (f : Bool) (q : List Byte) : (s.setTx f q).scanPosition = s.scanPosition := rfl
@[simp] theorem State.setTx_lastScan (s : State) (f : Bool) (q : List Byte) : (s.setTx f q).lastScan = s.lastScan := rfl
@[simp] theorem State.setTx_txInFlight (s : State) (f : Bool) (q : List Byte) : (s.setTx f q).txInFlight = f := rfl
@[simp] theorem State.setTx_txQueue (s : State) (f : Bool) (q : List Byte) : (s.setTx f q).txQueue = q := rfl
@[simp] theorem State.setTx_lineLevel (s : State) (f : Bool) (q : List Byte) : (s.setTx f q).lineLevel = s.lineLevel := rfl
@[simp] theorem State.setTx_lastChange (s : State) (f : Bool) (q : List Byte) : (s.setTx f q).lastChange = s.lastChange := rfl
@[simp] theorem State.setTx_rx (s : State) (f : Bool) (q : List Byte) : (s.setTx f q).rx = s.rx := rfl
@[simp] theorem State.setTx_lastTime (s : State) (f : Bool) (q : List Byte) : (s.setTx f q).lastTime = s.lastTime := rfl
@[simp] theorem State.setTx_outputs (s : State) (f : Bool) (q : List Byte) : (s.setTx f q).outputs = s.outputs := rfl
@[simp] theorem State.setTx_config (s : State) (f : Bool) (q : List Byte) : (s.setTx f q).config = s.config := rfl
@[simp] theorem State.setTx_pending (s : State) (f : Bool) (q : List Byte) : (s.setTx f q).pending = s.pending := rfl

/-! ## setRx -/

@[simp] theorem State.setRx_regs (s : State) (r : RxState) : (s.setRx r).regs = s.regs := rfl
@[simp] theorem State.setRx_writeIndex (s : State) (r : RxState) : (s.setRx r).writeIndex = s.writeIndex := rfl
@[simp] theorem State.setRx_readIndex (s : State) (r : RxState) : (s.setRx r).readIndex = s.readIndex := rfl
@[simp] theorem State.setRx_stage (s : State) (r : RxState) : (s.setRx r).stage = s.stage := rfl
@[simp] theorem State.setRx_writePhase (s : State) (r : RxState) : (s.setRx r).writePhase = s.writePhase := rfl
@[simp] theorem State.setRx_readPhase (s : State) (r : RxState) : (s.setRx r).readPhase = s.readPhase := rfl
@[simp] theorem State.setRx_pal (s : State) (r : RxState) : (s.setRx r).pal = s.pal := rfl
@[simp] theorem State.setRx_exposed (s : State) (r : RxState) : (s.setRx r).exposed = s.exposed := rfl
@[simp] theorem State.setRx_dacBits (s : State) (r : RxState) : (s.setRx r).dacBits = s.dacBits := rfl
@[simp] theorem State.setRx_active (s : State) (r : RxState) : (s.setRx r).active = s.active := rfl
@[simp] theorem State.setRx_scanPosition (s : State) (r : RxState) : (s.setRx r).scanPosition = s.scanPosition := rfl
@[simp] theorem State.setRx_lastScan (s : State) (r : RxState) : (s.setRx r).lastScan = s.lastScan := rfl
@[simp] theorem State.setRx_txInFlight (s : State) (r : RxState) : (s.setRx r).txInFlight = s.txInFlight := rfl
@[simp] theorem State.setRx_txQueue (s : State) (r : RxState) : (s.setRx r).txQueue = s.txQueue := rfl
@[simp] theorem State.setRx_lineLevel (s : State) (r : RxState) : (s.setRx r).lineLevel = s.lineLevel := rfl
@[simp] theorem State.setRx_lastChange (s : State) (r : RxState) : (s.setRx r).lastChange = s.lastChange := rfl
@[simp] theorem State.setRx_rx (s : State) (r : RxState) : (s.setRx r).rx = r := rfl
@[simp] theorem State.setRx_lastTime (s : State) (r : RxState) : (s.setRx r).lastTime = s.lastTime := rfl
@[simp] theorem State.setRx_outputs (s : State) (r : RxState) : (s.setRx r).outputs = s.outputs := rfl
@[simp] theorem State.setRx_config (s : State) (r : RxState) : (s.setRx r).config = s.config := rfl
@[simp] theorem State.setRx_pending (s : State) (r : RxState) : (s.setRx r).pending = s.pending := rfl

/-! ## setLine -/

@[simp] theorem State.setLine_regs (s : State) (l : Bool) : (s.setLine l).regs = s.regs := rfl
@[simp] theorem State.setLine_writeIndex (s : State) (l : Bool) : (s.setLine l).writeIndex = s.writeIndex := rfl
@[simp] theorem State.setLine_readIndex (s : State) (l : Bool) : (s.setLine l).readIndex = s.readIndex := rfl
@[simp] theorem State.setLine_stage (s : State) (l : Bool) : (s.setLine l).stage = s.stage := rfl
@[simp] theorem State.setLine_writePhase (s : State) (l : Bool) : (s.setLine l).writePhase = s.writePhase := rfl
@[simp] theorem State.setLine_readPhase (s : State) (l : Bool) : (s.setLine l).readPhase = s.readPhase := rfl
@[simp] theorem State.setLine_pal (s : State) (l : Bool) : (s.setLine l).pal = s.pal := rfl
@[simp] theorem State.setLine_exposed (s : State) (l : Bool) : (s.setLine l).exposed = s.exposed := rfl
@[simp] theorem State.setLine_dacBits (s : State) (l : Bool) : (s.setLine l).dacBits = s.dacBits := rfl
@[simp] theorem State.setLine_active (s : State) (l : Bool) : (s.setLine l).active = s.active := rfl
@[simp] theorem State.setLine_scanPosition (s : State) (l : Bool) : (s.setLine l).scanPosition = s.scanPosition := rfl
@[simp] theorem State.setLine_lastScan (s : State) (l : Bool) : (s.setLine l).lastScan = s.lastScan := rfl
@[simp] theorem State.setLine_txInFlight (s : State) (l : Bool) : (s.setLine l).txInFlight = s.txInFlight := rfl
@[simp] theorem State.setLine_txQueue (s : State) (l : Bool) : (s.setLine l).txQueue = s.txQueue := rfl
@[simp] theorem State.setLine_lineLevel (s : State) (l : Bool) : (s.setLine l).lineLevel = l := rfl
@[simp] theorem State.setLine_lastChange (s : State) (l : Bool) : (s.setLine l).lastChange = s.lastTime := rfl
@[simp] theorem State.setLine_rx (s : State) (l : Bool) : (s.setLine l).rx = s.rx := rfl
@[simp] theorem State.setLine_lastTime (s : State) (l : Bool) : (s.setLine l).lastTime = s.lastTime := rfl
@[simp] theorem State.setLine_outputs (s : State) (l : Bool) : (s.setLine l).outputs = s.outputs := rfl
@[simp] theorem State.setLine_config (s : State) (l : Bool) : (s.setLine l).config = s.config := rfl
@[simp] theorem State.setLine_pending (s : State) (l : Bool) : (s.setLine l).pending = s.pending := rfl

/-! ## prologue -/

@[simp] theorem State.prologue_regs (s : State) (k : Kind) (t : Nat) : (s.prologue k t).regs = s.regs := rfl
@[simp] theorem State.prologue_writeIndex (s : State) (k : Kind) (t : Nat) : (s.prologue k t).writeIndex = s.writeIndex := rfl
@[simp] theorem State.prologue_readIndex (s : State) (k : Kind) (t : Nat) : (s.prologue k t).readIndex = s.readIndex := rfl
@[simp] theorem State.prologue_stage (s : State) (k : Kind) (t : Nat) : (s.prologue k t).stage = s.stage := rfl
@[simp] theorem State.prologue_writePhase (s : State) (k : Kind) (t : Nat) : (s.prologue k t).writePhase = s.writePhase := rfl
@[simp] theorem State.prologue_readPhase (s : State) (k : Kind) (t : Nat) : (s.prologue k t).readPhase = s.readPhase := rfl
@[simp] theorem State.prologue_pal (s : State) (k : Kind) (t : Nat) : (s.prologue k t).pal = s.pal := rfl
@[simp] theorem State.prologue_exposed (s : State) (k : Kind) (t : Nat) : (s.prologue k t).exposed = s.exposed := rfl
@[simp] theorem State.prologue_dacBits (s : State) (k : Kind) (t : Nat) : (s.prologue k t).dacBits = s.dacBits := rfl
@[simp] theorem State.prologue_active (s : State) (k : Kind) (t : Nat) : (s.prologue k t).active = activeAfter s.active k := rfl
@[simp] theorem State.prologue_scanPosition (s : State) (k : Kind) (t : Nat) : (s.prologue k t).scanPosition = s.scanPosition := rfl
@[simp] theorem State.prologue_lastScan (s : State) (k : Kind) (t : Nat) : (s.prologue k t).lastScan = s.lastScan := rfl
@[simp] theorem State.prologue_txInFlight (s : State) (k : Kind) (t : Nat) : (s.prologue k t).txInFlight = s.txInFlight := rfl
@[simp] theorem State.prologue_txQueue (s : State) (k : Kind) (t : Nat) : (s.prologue k t).txQueue = s.txQueue := rfl
@[simp] theorem State.prologue_lineLevel (s : State) (k : Kind) (t : Nat) : (s.prologue k t).lineLevel = s.lineLevel := rfl
@[simp] theorem State.prologue_lastChange (s : State) (k : Kind) (t : Nat) : (s.prologue k t).lastChange = s.lastChange := rfl
@[simp] theorem State.prologue_rx (s : State) (k : Kind) (t : Nat) : (s.prologue k t).rx = s.rx := rfl
@[simp] theorem State.prologue_lastTime (s : State) (k : Kind) (t : Nat) : (s.prologue k t).lastTime = t := rfl
@[simp] theorem State.prologue_outputs (s : State) (k : Kind) (t : Nat) : (s.prologue k t).outputs = s.outputs := rfl
@[simp] theorem State.prologue_config (s : State) (k : Kind) (t : Nat) : (s.prologue k t).config = s.config := rfl
@[simp] theorem State.prologue_pending (s : State) (k : Kind) (t : Nat) : (s.prologue k t).pending = s.pending := rfl

/-! ## deliverStimuli -/

@[simp] theorem State.deliverStimuli_regs (s : State) (l : List Stimulus) : (s.deliverStimuli l).regs = s.regs := rfl
@[simp] theorem State.deliverStimuli_writeIndex (s : State) (l : List Stimulus) : (s.deliverStimuli l).writeIndex = s.writeIndex := rfl
@[simp] theorem State.deliverStimuli_readIndex (s : State) (l : List Stimulus) : (s.deliverStimuli l).readIndex = s.readIndex := rfl
@[simp] theorem State.deliverStimuli_stage (s : State) (l : List Stimulus) : (s.deliverStimuli l).stage = s.stage := rfl
@[simp] theorem State.deliverStimuli_writePhase (s : State) (l : List Stimulus) : (s.deliverStimuli l).writePhase = s.writePhase := rfl
@[simp] theorem State.deliverStimuli_readPhase (s : State) (l : List Stimulus) : (s.deliverStimuli l).readPhase = s.readPhase := rfl
@[simp] theorem State.deliverStimuli_pal (s : State) (l : List Stimulus) : (s.deliverStimuli l).pal = s.pal := rfl
@[simp] theorem State.deliverStimuli_exposed (s : State) (l : List Stimulus) : (s.deliverStimuli l).exposed = s.exposed := rfl
@[simp] theorem State.deliverStimuli_dacBits (s : State) (l : List Stimulus) : (s.deliverStimuli l).dacBits = s.dacBits := rfl
@[simp] theorem State.deliverStimuli_active (s : State) (l : List Stimulus) : (s.deliverStimuli l).active = s.active := rfl
@[simp] theorem State.deliverStimuli_scanPosition (s : State) (l : List Stimulus) : (s.deliverStimuli l).scanPosition = s.scanPosition := rfl
@[simp] theorem State.deliverStimuli_lastScan (s : State) (l : List Stimulus) : (s.deliverStimuli l).lastScan = s.lastScan := rfl
@[simp] theorem State.deliverStimuli_txInFlight (s : State) (l : List Stimulus) : (s.deliverStimuli l).txInFlight = s.txInFlight := rfl
@[simp] theorem State.deliverStimuli_txQueue (s : State) (l : List Stimulus) : (s.deliverStimuli l).txQueue = s.txQueue := rfl
@[simp] theorem State.deliverStimuli_lineLevel (s : State) (l : List Stimulus) : (s.deliverStimuli l).lineLevel = s.lineLevel := rfl
@[simp] theorem State.deliverStimuli_lastChange (s : State) (l : List Stimulus) : (s.deliverStimuli l).lastChange = s.lastChange := rfl
@[simp] theorem State.deliverStimuli_rx (s : State) (l : List Stimulus) : (s.deliverStimuli l).rx = s.rx := rfl
@[simp] theorem State.deliverStimuli_lastTime (s : State) (l : List Stimulus) : (s.deliverStimuli l).lastTime = s.lastTime := rfl
@[simp] theorem State.deliverStimuli_outputs (s : State) (l : List Stimulus) : (s.deliverStimuli l).outputs = s.outputs := rfl
@[simp] theorem State.deliverStimuli_config (s : State) (l : List Stimulus) : (s.deliverStimuli l).config = s.config := rfl
@[simp] theorem State.deliverStimuli_pending (s : State) (l : List Stimulus) : (s.deliverStimuli l).pending = s.pending ++ l := rfl

/-! ## deliverFirst -/

@[simp] theorem State.deliverFirst_regs (s : State) (st : Stimulus) : (s.deliverFirst st).regs = s.regs := rfl
@[simp] theorem State.deliverFirst_writeIndex (s : State) (st : Stimulus) : (s.deliverFirst st).writeIndex = s.writeIndex := rfl
@[simp] theorem State.deliverFirst_readIndex (s : State) (st : Stimulus) : (s.deliverFirst st).readIndex = s.readIndex := rfl
@[simp] theorem State.deliverFirst_stage (s : State) (st : Stimulus) : (s.deliverFirst st).stage = s.stage := rfl
@[simp] theorem State.deliverFirst_writePhase (s : State) (st : Stimulus) : (s.deliverFirst st).writePhase = s.writePhase := rfl
@[simp] theorem State.deliverFirst_readPhase (s : State) (st : Stimulus) : (s.deliverFirst st).readPhase = s.readPhase := rfl
@[simp] theorem State.deliverFirst_pal (s : State) (st : Stimulus) : (s.deliverFirst st).pal = s.pal := rfl
@[simp] theorem State.deliverFirst_exposed (s : State) (st : Stimulus) : (s.deliverFirst st).exposed = s.exposed := rfl
@[simp] theorem State.deliverFirst_dacBits (s : State) (st : Stimulus) : (s.deliverFirst st).dacBits = s.dacBits := rfl
@[simp] theorem State.deliverFirst_active (s : State) (st : Stimulus) : (s.deliverFirst st).active = s.active := rfl
@[simp] theorem State.deliverFirst_scanPosition (s : State) (st : Stimulus) : (s.deliverFirst st).scanPosition = s.scanPosition := rfl
@[simp] theorem State.deliverFirst_lastScan (s : State) (st : Stimulus) : (s.deliverFirst st).lastScan = s.lastScan := rfl
@[simp] theorem State.deliverFirst_txInFlight (s : State) (st : Stimulus) : (s.deliverFirst st).txInFlight = s.txInFlight := rfl
@[simp] theorem State.deliverFirst_txQueue (s : State) (st : Stimulus) : (s.deliverFirst st).txQueue = s.txQueue := rfl
@[simp] theorem State.deliverFirst_lineLevel (s : State) (st : Stimulus) : (s.deliverFirst st).lineLevel = s.lineLevel := rfl
@[simp] theorem State.deliverFirst_lastChange (s : State) (st : Stimulus) : (s.deliverFirst st).lastChange = s.lastChange := rfl
@[simp] theorem State.deliverFirst_rx (s : State) (st : Stimulus) : (s.deliverFirst st).rx = s.rx := rfl
@[simp] theorem State.deliverFirst_lastTime (s : State) (st : Stimulus) : (s.deliverFirst st).lastTime = s.lastTime := rfl
@[simp] theorem State.deliverFirst_outputs (s : State) (st : Stimulus) : (s.deliverFirst st).outputs = s.outputs := rfl
@[simp] theorem State.deliverFirst_config (s : State) (st : Stimulus) : (s.deliverFirst st).config = s.config := rfl
@[simp] theorem State.deliverFirst_pending (s : State) (st : Stimulus) : (s.deliverFirst st).pending = st :: s.pending := rfl

/-! ## resetAll -/

@[simp] theorem State.resetAll_regs (s : State) : (s.resetAll).regs = Vector.replicate 16 0x00#8 := rfl
@[simp] theorem State.resetAll_writeIndex (s : State) : (s.resetAll).writeIndex = 0 := rfl
@[simp] theorem State.resetAll_readIndex (s : State) : (s.resetAll).readIndex = 0 := rfl
@[simp] theorem State.resetAll_stage (s : State) : (s.resetAll).stage = Vector.replicate 3 0x00#8 := rfl
@[simp] theorem State.resetAll_writePhase (s : State) : (s.resetAll).writePhase = 0 := rfl
@[simp] theorem State.resetAll_readPhase (s : State) : (s.resetAll).readPhase = 0 := rfl
@[simp] theorem State.resetAll_pal (s : State) : (s.resetAll).pal = s.pal := rfl
@[simp] theorem State.resetAll_exposed (s : State) : (s.resetAll).exposed = s.exposed := rfl
@[simp] theorem State.resetAll_dacBits (s : State) : (s.resetAll).dacBits = s.dacBits := rfl
@[simp] theorem State.resetAll_active (s : State) : (s.resetAll).active = s.active := rfl
@[simp] theorem State.resetAll_scanPosition (s : State) : (s.resetAll).scanPosition = 0 := rfl
@[simp] theorem State.resetAll_lastScan (s : State) : (s.resetAll).lastScan = Vector.replicate 16 0x00#8 := rfl
@[simp] theorem State.resetAll_txInFlight (s : State) : (s.resetAll).txInFlight = false := rfl
@[simp] theorem State.resetAll_txQueue (s : State) : (s.resetAll).txQueue = [] := rfl
@[simp] theorem State.resetAll_lineLevel (s : State) : (s.resetAll).lineLevel = true := rfl
@[simp] theorem State.resetAll_lastChange (s : State) : (s.resetAll).lastChange = s.lastTime := rfl
@[simp] theorem State.resetAll_rx (s : State) : (s.resetAll).rx = .idle := rfl
@[simp] theorem State.resetAll_lastTime (s : State) : (s.resetAll).lastTime = s.lastTime := rfl
@[simp] theorem State.resetAll_outputs (s : State) : (s.resetAll).outputs = s.outputs := rfl
@[simp] theorem State.resetAll_config (s : State) : (s.resetAll).config = s.config := rfl
@[simp] theorem State.resetAll_pending (s : State) : (s.resetAll).pending = s.pending := rfl

end Sys2Proof.Machine
end

