-- ==== Sys2Proof/Laws/Ops.lean ====
section
/-! SUPPORT. What each shared operation over the state can do, said once. -/

namespace Sys2Proof.Machine

/-! ## Accessors see only their own field -/

theorem State.reg_congr (s t : State) (h : t.regs = s.regs) (a : Addr4) : t.reg a = s.reg a := by
  simp [State.reg, h]

theorem State.palByte_congr (s t : State) (h : t.pal = s.pal) (c : Channel) (e : Byte) :
    t.palByte c e = s.palByte c e := by
  simp [State.palByte, h]

theorem State.color_congr (s t : State) (h : t.exposed = s.exposed) (e : Byte) : t.color e = s.color e := by
  simp [State.color, h]

theorem State.rowScan_congr (s t : State) (h : t.lastScan = s.lastScan) (r : Row) : t.rowScan r = s.rowScan r := by
  simp [State.rowScan, h]

theorem State.penOf_congr (s t : State) (hp : t.pal = s.pal) (hd : t.dacBits = s.dacBits) (e : Byte) :
    t.penOf e = s.penOf e := by
  simp [State.penOf, hd, State.palByte_congr s t hp]

/-! ## Reads after writes -/

/-- A general register after a write: the written value there, and as before elsewhere. -/
@[simp] theorem State.reg_setReg (s : State) (a b : Addr4) (v : Byte) :
    (s.setReg a v).reg b = if b = a then v else s.reg b := by
  by_cases h : b = a
  · subst h; simp [State.reg]
  · have : a.toNat ≠ b.toNat := fun e => h (BitVec.eq_of_toNat_eq e.symm)
    simp [State.reg, h, this]

/-- A palette byte after an entry is written. -/
@[simp] theorem State.palByte_setEntry (s : State) (e r g b x : Byte) (c : Channel) :
    (s.setEntry e r g b).palByte c x =
      if x = e then (if c = 0 then r else if c = 1 then g else b) else s.palByte c x := by
  have hne : x ≠ e → e.toNat ≠ x.toNat := fun h he => h (BitVec.eq_of_toNat_eq he.symm)
  match c with
  | 0 => by_cases h : x = e <;> simp [State.palByte, h, hne]
  | 1 => by_cases h : x = e <;> simp [State.palByte, h, hne]
  | 2 => by_cases h : x = e <;> simp [State.palByte, h, hne]

/-- A color after one pen update. -/
@[simp] theorem State.color_updatePen (s : State) (e x : Byte) :
    (s.updatePen e).color x = if x = e then s.penOf e else s.color x := by
  by_cases h : x = e
  · subst h; simp [State.color]
  · have : e.toNat ≠ x.toNat := fun he => h (BitVec.eq_of_toNat_eq he.symm)
    simp [State.color, h, this]

/-- Every color after the depth is set. -/
@[simp] theorem State.color_setDepth (s : State) (bits : BitDepth) (x : Byte) :
    (s.setDepth bits).color x = pen (s.palByte 0 x) (s.palByte 1 x) (s.palByte 2 x) bits := by
  simp [State.color, State.palByte]

/-- A recorded row after one column of a row is recorded. -/
@[simp] theorem State.rowScan_recordKey (s : State) (r x : Row) (c : Column) (p : Bool) :
    (s.recordKey r c p).rowScan x = if x = r then withColumn (s.rowScan r) c p else s.rowScan x := by
  by_cases h : x = r
  · subst h; simp [State.rowScan]
  · have : r.toNat ≠ x.toNat := fun he => h (BitVec.eq_of_toNat_eq he.symm)
    simp [State.rowScan, h, this]

/-! ## Composite operations -/

/-- What a commit changes (40_palette.md R90). -/
theorem State.commit_eq (s : State) :
    s.commit = { s with
      pal := (s.setEntry s.writeIndex s.stage[0] s.stage[1] s.stage[2]).pal
      exposed := ((s.setEntry s.writeIndex s.stage[0] s.stage[1] s.stage[2]).updatePen s.writeIndex).exposed
      writeIndex := s.writeIndex + 1
      writePhase := 0 } := rfl

/-- Palette memory after a commit. -/
theorem State.palByte_commit (s : State) (c : Channel) (x : Byte) :
    s.commit.palByte c x = if x = s.writeIndex then s.stage[c.val] else s.palByte c x := by
  have h : s.commit.palByte c x =
      (s.setEntry s.writeIndex s.stage[0] s.stage[1] s.stage[2]).palByte c x := rfl
  rw [h, State.palByte_setEntry]
  match c with
  | 0 => rfl
  | 1 => rfl
  | 2 => rfl

/-- The color table after a commit. -/
theorem State.color_commit (s : State) (x : Byte) :
    s.commit.color x =
      if x = s.writeIndex then pen s.stage[0] s.stage[1] s.stage[2] s.dacBits else s.color x := by
  have h : s.commit.color x =
      ((s.setEntry s.writeIndex s.stage[0] s.stage[1] s.stage[2]).updatePen s.writeIndex).color x := rfl
  rw [h, State.color_updatePen]
  by_cases hx : x = s.writeIndex
  · rw [if_pos hx, if_pos hx, State.penOf, State.palByte_setEntry, State.palByte_setEntry, State.palByte_setEntry]
    simp
  · rw [if_neg hx, if_neg hx]; rfl

/-- The palette-data write: a partial triplet, or a commit (R89). -/
theorem State.writeData_cases (s : State) (d : Byte) :
    (s.writePhase ≠ 2 ∧
      s.writeData d = { s with stage := s.stage.set s.writePhase.val d, writePhase := nextPhase s.writePhase }) ∨
    (s.writePhase = 2 ∧ s.writeData d = (s.setStage 2 d).commit) := by
  by_cases h : s.writePhase = 2
  · right; refine ⟨h, ?_⟩; rw [State.writeData, if_pos h, h]
  · left; refine ⟨h, ?_⟩; rw [State.writeData, if_neg h]; rfl

/-- The palette-data read, whatever the phase (R85). -/
theorem State.readData_eq (s : State) :
    s.readData = { s with
      readIndex := if s.readPhase = 2 then s.readIndex + 1 else s.readIndex
      readPhase := nextPhase s.readPhase
      outputs := s.outputs ++ [.busData (s.palByte s.readPhase s.readIndex)] } := by
  by_cases h : s.readPhase = 2
  · simp [State.readData, h, State.setReadCursor, State.emit]
  · simp [State.readData, h, State.setReadCursor, State.emit]

/-- What a tick with a detected change can do (41_keyboard_scan.md R101, R104). -/
theorem State.reportChange_cases (s : State) (r : Row) (c : Column) (p : Bool) :
    (s.txInFlight = false ∧ s.reportChange r c p = (s.submit (scanByte p r c)).recordKey r c p) ∨
    (s.txInFlight = true ∧ s.txQueue.length < s.config.txqDepth ∧
      s.reportChange r c p = (s.enqueue (scanByte p r c)).recordKey r c p) ∨
    (s.txInFlight = true ∧ s.config.txqDepth ≤ s.txQueue.length ∧ s.reportChange r c p = s) := by
  cases hf : s.txInFlight with
  | false => left; simp [State.reportChange, txRoute, hf]
  | true =>
    right
    by_cases hq : s.txQueue.length < s.config.txqDepth
    · left; simp [State.reportChange, txRoute, hf, hq]
    · right; simp [State.reportChange, txRoute, hf, hq]; omega

/-- What a tick can do (R101). -/
theorem State.scanRow_cases (s : State) (r : Row) (sample : Byte) :
    (sample = s.rowScan r ∧ s.scanRow r sample = s.setScanPosition r) ∨
    (∃ c, lowestColumn (sample ^^^ s.rowScan r) = some c ∧
      s.scanRow r sample = (s.setScanPosition r).reportChange r c (sample.getLsbD c.toNat)) := by
  cases h : lowestColumn (sample ^^^ s.rowScan r) with
  | none =>
    left
    refine ⟨?_, by simp only [State.scanRow, h]⟩
    exact BitVec.xor_eq_zero_iff.mp ((lowestColumn_eq_none _).mp h)
  | some c => right; exact ⟨c, rfl, by simp only [State.scanRow, h]⟩

/-- What an acknowledgement can do (R105, R106). -/
theorem State.framerDone_cases (s : State) :
    (s.txInFlight = false ∧ s.framerDone = s) ∨
    (s.txInFlight = true ∧ s.txQueue = [] ∧ s.framerDone = { s with txInFlight := false }) ∨
    (∃ b rest, s.txInFlight = true ∧ s.txQueue = b :: rest ∧
      s.framerDone = { s with txQueue := rest, outputs := s.outputs ++ [.txSubmit b s.lastTime] }) := by
  cases hf : s.txInFlight with
  | false => left; simp [State.framerDone, hf]
  | true =>
    right
    cases hq : s.txQueue with
    | nil => left; simp [State.framerDone, hf, hq, State.setTx]
    | cons b rest =>
      right
      refine ⟨b, rest, rfl, rfl, ?_⟩
      simp [State.framerDone, hf, hq, State.setTx, State.submit]

/-- What an assembled byte can do: a click, or nothing (42_keyboard_line.md R119, R120). -/
theorem State.deliver_some (s : State) (b : Byte) :
    s.deliver (some b) =
      if b = s.config.clickCmd then
        { s with outputs := s.outputs ++ [.toneClick s.lastTime s.config.clickDuration] }
      else s := rfl

@[simp] theorem State.deliver_none (s : State) : s.deliver none = s := rfl

/-- Delivery writes the output history only. -/
theorem State.deliver_outputs (s : State) (b : Option Byte) :
    ∃ o, s.deliver b = { s with outputs := s.outputs ++ o } := by
  cases b with
  | none => exact ⟨[], by simp⟩
  | some b =>
    rw [State.deliver_some]
    split
    · exact ⟨_, rfl⟩
    · exact ⟨[], by simp⟩

/-- A level report (R112, R113). -/
theorem State.changeLine_cases (s : State) (l : Bool) :
    (l = s.lineLevel ∧ s.changeLine l = s) ∨
    (l = !s.lineLevel ∧
      s.changeLine l =
        ((s.setRx (decodePulse s.config s.lineLevel (s.lastTime - s.lastChange) s.rx).1).deliver
          (decodePulse s.config s.lineLevel (s.lastTime - s.lastChange) s.rx).2).setLine l) := by
  by_cases h : l = s.lineLevel
  · left; exact ⟨h, by rw [State.changeLine, if_pos h]⟩
  · right
    refine ⟨?_, by rw [State.changeLine, if_neg h]⟩
    cases l <;> cases hl : s.lineLevel <;> simp_all

/-- The receive timer (R121). -/
theorem State.expireTimer_cases (s : State) :
    (timerByte s.config s.lineLevel s.lastChange s.lastTime s.rx = none ∧ s.expireTimer = s) ∨
    (∃ b, timerByte s.config s.lineLevel s.lastChange s.lastTime s.rx = some b ∧
      s.expireTimer = (s.deliver (some b)).setRx .idle) := by
  cases h : timerByte s.config s.lineLevel s.lastChange s.lastTime s.rx with
  | none => left; exact ⟨rfl, by simp only [State.expireTimer, h]⟩
  | some b => right; exact ⟨b, rfl, by simp only [State.expireTimer, h]⟩

/-! ## Stimuli -/

/-- The only operation with a stop is SET_BITS (40_palette.md R98). -/
theorem exec_cases (i : Instr) (s : State) :
    (∃ t, exec i s = .next t) ∨
    (∃ bits, i = .setBits bits ∧ s.active = true ∧ exec i s = .refused .setBitsAfterActive) := by
  cases i with
  | setBits bits =>
    by_cases h : s.active = true
    · right; exact ⟨bits, rfl, h, by simp [exec, execSetBits, h]⟩
    · left; exact ⟨s.setDepth bits, by simp [exec, execSetBits, h]⟩
  | _ => left; exact ⟨_, rfl⟩

/-- What an applied stimulus must have passed (00_scope.md R18). -/
theorem applyStimulus_next (st : Stimulus) (s t : State) (h : applyStimulus st s = .next t) :
    ∃ i, decode st.word = .ok i ∧ s.lastTime ≤ st.time ∧ exec i (s.prologue i.kind st.time) = .next t := by
  simp only [applyStimulus] at h
  split at h
  · cases h
  · next i hi =>
    split at h
    · cases h
    · next hlt => exact ⟨i, hi, Nat.le_of_not_lt hlt, h⟩

/-- A stimulus that decodes and is not out of order runs its operation after the prologue. -/
theorem applyStimulus_eq_exec (st : Stimulus) (s : State) (i : Instr) (hd : decode st.word = .ok i)
    (ht : s.lastTime ≤ st.time) : applyStimulus st s = exec i (s.prologue i.kind st.time) := by
  simp only [applyStimulus, hd]
  exact if_neg (Nat.not_lt.mpr ht)

/-- What a step that answers a next state has done. -/
theorem step_next (s t : State) (h : stepPending s = .next t) :
    (s.pending = [] ∧ t = s) ∨
    (∃ st rest, s.pending = st :: rest ∧ applyStimulus st { s with pending := rest } = .next t) := by
  cases hp : s.pending with
  | nil =>
    left
    simp only [stepPending, State.fetch, hp] at h
    cases h; exact ⟨rfl, rfl⟩
  | cons st rest =>
    right
    refine ⟨st, rest, rfl, ?_⟩
    simpa only [stepPending, State.fetch, hp] using h

/-- A sequence whose first stimulus answers a next state goes on from there. -/
theorem applyAll_cons_next (st : Stimulus) (rest : List Stimulus) (s t : State) (h : applyStimulus st s = .next t) :
    applyAll (st :: rest) s = applyAll rest t := by
  simp only [applyAll, h]

/-- The stimuli of a concatenation are applied one list after the other. -/
theorem applyAll_append (l m : List Stimulus) (s t : State) (h : applyAll l s = .next t) :
    applyAll (l ++ m) s = applyAll m t := by
  induction l generalizing s with
  | nil => simp only [applyAll] at h; cases h; rfl
  | cons st rest ih =>
    simp only [List.cons_append, applyAll] at h ⊢
    split at h
    · next s' hs => exact ih s' h
    · cases h
    · cases h

end Sys2Proof.Machine
end

