-- ==== Sys2Proof/Laws/PerInstr.lean ====
section
/-! SUPPORT. The family EncodeFields: the word of an operation carries the operation's kind in bits 15:13 and 0 in bit 12
(30_encoding.md R65, R66). -/

namespace Sys2Proof.Laws

/-- The kind field and the reserved bit of an operation's word. -/
def EncodeFields.Statement (i : Instr) : Prop :=
  (encode i).kindField = i.kind.bits ∧ (encode i).reservedBit = 0#1

theorem EncodeFields.rdWaddr : EncodeFields.Statement .rdWaddr := by simp [EncodeFields.Statement, encode, Instr.kind]
theorem EncodeFields.rdPdata : EncodeFields.Statement .rdPdata := by simp [EncodeFields.Statement, encode, Instr.kind]
theorem EncodeFields.rdReg2 : EncodeFields.Statement .rdReg2 := by simp [EncodeFields.Statement, encode, Instr.kind]
theorem EncodeFields.rdRaddr : EncodeFields.Statement .rdRaddr := by simp [EncodeFields.Statement, encode, Instr.kind]
theorem EncodeFields.rdReg4to7 (a : Addr4) : EncodeFields.Statement (.rdReg4to7 a) := by
  simp [EncodeFields.Statement, encode, Instr.kind]
theorem EncodeFields.rdReg8to15 (a : Addr4) : EncodeFields.Statement (.rdReg8to15 a) := by
  simp [EncodeFields.Statement, encode, Instr.kind]
theorem EncodeFields.wrWaddr (d : Byte) : EncodeFields.Statement (.wrWaddr d) := by
  simp [EncodeFields.Statement, encode, Instr.kind]
theorem EncodeFields.wrPdata (d : Byte) : EncodeFields.Statement (.wrPdata d) := by
  simp [EncodeFields.Statement, encode, Instr.kind]
theorem EncodeFields.wrReg2 (d : Byte) : EncodeFields.Statement (.wrReg2 d) := by
  simp [EncodeFields.Statement, encode, Instr.kind]
theorem EncodeFields.wrRaddr (d : Byte) : EncodeFields.Statement (.wrRaddr d) := by
  simp [EncodeFields.Statement, encode, Instr.kind]
theorem EncodeFields.wrReg4to7 (a : Addr4) (d : Byte) : EncodeFields.Statement (.wrReg4to7 a d) := by
  simp [EncodeFields.Statement, encode, Instr.kind]
theorem EncodeFields.wrReg8to15 (a : Addr4) (d : Byte) : EncodeFields.Statement (.wrReg8to15 a d) := by
  simp [EncodeFields.Statement, encode, Instr.kind]
theorem EncodeFields.scanTick (r : Row) (s : Byte) : EncodeFields.Statement (.scanTick r s) := by
  simp [EncodeFields.Statement, encode, Instr.kind]
theorem EncodeFields.lineChange (l : Bool) : EncodeFields.Statement (.lineChange l) := by
  simp [EncodeFields.Statement, encode, Instr.kind]
theorem EncodeFields.framerSent : EncodeFields.Statement .framerSent := by
  simp [EncodeFields.Statement, encode, Instr.kind]
theorem EncodeFields.frameTimer : EncodeFields.Statement .frameTimer := by
  simp [EncodeFields.Statement, encode, Instr.kind]
theorem EncodeFields.reset : EncodeFields.Statement .reset := by simp [EncodeFields.Statement, encode, Instr.kind]
theorem EncodeFields.setBits (bits : BitDepth) : EncodeFields.Statement (.setBits bits) := by
  simp [EncodeFields.Statement, encode, Instr.kind]

end Sys2Proof.Laws
end

