-- ==== Sys2Proof/Laws/Runs.lean ====
section
/-! SUPPORT. The vocabulary of Safety.lean for sequences of stimuli and changed columns, said once. -/

namespace Sys2Proof.Machine

/-- The lowest column a tick computes is the one `IsLowest` describes. -/
theorem lowestColumn_eq_some (x : Byte) (c : Column) : lowestColumn x = some c ↔ IsLowest x c := by
  constructor
  · exact fun h => ⟨lowestColumn_bit x c h, fun j hj => lowestColumn_least x c j h hj⟩
  · intro ⟨hb, hl⟩
    cases h : lowestColumn x with
    | none => rw [(lowestColumn_eq_none x).mp h] at hb; simp at hb
    | some d =>
      have h₁ : ¬ c < d := fun hc => by rw [lowestColumn_least x d c h hc] at hb; cases hb
      have h₂ : ¬ d < c := fun hc => by have := lowestColumn_bit x d h; rw [hl d hc] at this; cases this
      exact congrArg some (BitVec.le_antisymm (BitVec.not_lt.mp h₁) (BitVec.not_lt.mp h₂))

@[simp] theorem stimuliOf_nil : stimuliOf [] = [] := rfl

@[simp] theorem stimuliOf_cons (i : Instr) (n : Nat) (l : List (Instr × Nat)) :
    stimuliOf ((i, n) :: l) = ⟨encode i, n⟩ :: stimuliOf l := rfl

@[simp] theorem stimuliOf_append (l m : List (Instr × Nat)) : stimuliOf (l ++ m) = stimuliOf l ++ stimuliOf m :=
  List.map_append

@[simp] theorem timesFrom_cons (t : Nat) (st : Stimulus) (rest : List Stimulus) :
    timesFrom t (st :: rest) = true ↔ t ≤ st.time ∧ timesFrom st.time rest = true := by
  simp [timesFrom]

/-- Operations still to come begin with one at a time not before the present one. -/
theorem timedFrom_cons (t : Nat) (i : Instr) (ops : List Instr) (l : List (Instr × Nat)) :
    TimedFrom t (i :: ops) l ↔ ∃ n rest, l = (i, n) :: rest ∧ t ≤ n ∧ TimedFrom n ops rest := by
  constructor
  · rintro ⟨hm, ht⟩
    match l, hm with
    | (_, n) :: rest, hm =>
      obtain ⟨rfl, hr⟩ := List.cons.inj hm
      obtain ⟨h₁, h₂⟩ := (timesFrom_cons _ _ _).mp ht
      exact ⟨n, rest, rfl, h₁, hr, h₂⟩
  · rintro ⟨n, rest, rfl, h₁, hr, h₂⟩
    exact ⟨by simp [hr], (timesFrom_cons _ _ _).mpr ⟨h₁, h₂⟩⟩

/-- No operations, no stimuli. -/
theorem timedFrom_nil (t : Nat) (l : List (Instr × Nat)) : TimedFrom t [] l ↔ l = [] := by
  constructor
  · exact fun h => List.map_eq_nil_iff.mp h.1
  · rintro rfl; exact ⟨rfl, rfl⟩

end Sys2Proof.Machine
end

