-- ==== Sys2Proof/Machine/ScriptText.lean ====
section
/-! DEFINITION. The text of a stimulus script (30_encoding.md R80, R81), as a list of characters. What R80 leaves to a
reader of the text (white space, a malformed line) is log 17. -/

namespace Sys2Proof.Machine

/-- The characters of a line before its comment (R80). -/
def uncomment : List Char → List Char
  | [] => []
  | c :: rest => if c = ';' then [] else c :: uncomment rest

/-- What ends a word of a line: white space, or the comma between operands. -/
def endsToken (c : Char) : Bool := c = ' ' || c = '\t' || c = '\r' || c = ','

/-- The words of a line: `word` is the one being read, reversed. -/
def tokensFrom : List Char → List Char → List (List Char)
  | [], word => if word.isEmpty then [] else [word.reverse]
  | c :: rest, word =>
    if endsToken c then (if word.isEmpty then tokensFrom rest [] else word.reverse :: tokensFrom rest [])
    else tokensFrom rest (c :: word)

/-- The value of a digit in a base of at most 16, none for a character that is no digit of it. -/
def digitValue (base : Nat) (c : Char) : Option Nat :=
  let n := c.toNat
  let v := if 48 ≤ n ∧ n ≤ 57 then n - 48 else if 97 ≤ n ∧ n ≤ 102 then n - 87 else if 65 ≤ n ∧ n ≤ 70 then n - 55 else base
  if v < base then some v else none

/-- The value of digits in a base, after the value of those already read. -/
def digitsFrom (base : Nat) : Nat → List Char → Option Nat
  | acc, [] => some acc
  | acc, c :: rest => (digitValue base c).bind fun v => digitsFrom base (acc * base + v) rest

/-- A number in decimal or `0x` hexadecimal (R80). -/
def number : List Char → Option Nat
  | '0' :: 'x' :: d :: rest => digitsFrom 16 0 (d :: rest)
  | d :: rest => digitsFrom 10 0 (d :: rest)
  | [] => none

/-- All of a list of numbers, or none. -/
def numbers : List (List Char) → Option (List Nat)
  | [] => some []
  | w :: rest => (number w).bind fun n => (numbers rest).map fun l => n :: l

/-- An operand of 0 to 255 (R80). -/
def byteOperand (n : Nat) : Option Byte := if n < 256 then some (BitVec.ofNat 8 n) else none

/-- An operand of 0 to 15: an address or a row (R80). -/
def nibbleOperand (n : Nat) : Option (BitVec 4) := if n < 16 then some (BitVec.ofNat 4 n) else none

/-- A level operand, 0 or 1 (R80). -/
def levelOperand (n : Nat) : Option Bool := if n = 0 then some false else if n = 1 then some true else none

/-- The sixteen samples of `scan` (R81). -/
def samplesOperand (l : List Nat) : Option (Vector Byte 16) :=
  if h : l.length = 16 then
    if l.all (fun n => decide (n < 256)) then some ⟨(l.map (BitVec.ofNat 8)).toArray, by simp [h]⟩ else none
  else none

/-- A statement from its name and operands (R80, R81). -/
def statementOf (name : List Char) (args : List Nat) : Option ScriptOp :=
  match name, args with
  | ['r', 'd'], [a] => (nibbleOperand a).map .rd
  | ['w', 'r'], [a, d] => (nibbleOperand a).bind fun a => (byteOperand d).map fun d => .wr a d
  | ['t', 'i', 'c', 'k'], [r, s] => (nibbleOperand r).bind fun r => (byteOperand s).map fun s => .tick r s
  | ['l', 'i', 'n', 'e'], [l] => (levelOperand l).map .line
  | ['s', 'e', 'n', 't'], [] => some .sent
  | ['f', 't', 'i', 'm', 'e', 'r'], [] => some .ftimer
  | ['r', 'e', 's', 'e', 't'], [] => some .reset
  | ['s', 'e', 't', 'b', 'i', 't', 's'], [n] => (BitDepth.ofNat? n).map .setbits
  | ['s', 'e', 't', 'w'], [e] => (byteOperand e).map .setw
  | ['s', 'e', 't', 'r'], [e] => (byteOperand e).map .setr
  | ['w', 'r', 'e', 'n', 't', 'r', 'y'], [e, r, g, b] =>
    (byteOperand e).bind fun e => (byteOperand r).bind fun r => (byteOperand g).bind fun g =>
      (byteOperand b).map fun b => .wrentry e r g b
  | ['r', 'd', 'e', 'n', 't', 'r', 'y'], [e] => (byteOperand e).map .rdentry
  | ['s', 'c', 'a', 'n'], l => (samplesOperand l).map .scan
  | ['s', 'e', 'n', 'd', 'b', 'y', 't', 'e'], [b] => (byteOperand b).map .sendbyte
  | _, _ => none

/-- A statement from its words. -/
def statementFrom : List (List Char) → Option ScriptOp
  | [] => none
  | name :: args => (numbers args).bind (statementOf name)

/-- One line: `some none` for a line without a statement, none for a line R80 and R81 give no meaning. -/
def lineFrom (text : List Char) : Option (Option ScriptLine) :=
  match tokensFrom (uncomment text) [] with
  | [] => some none
  | ('@' :: t) :: rest => (number t).bind fun t => (statementFrom rest).map fun op => some ⟨some t, op⟩
  | words => (statementFrom words).map fun op => some ⟨none, op⟩

/-- The lines of a text: `line` is the one being read, reversed. -/
def splitLines : List Char → List Char → List (List Char)
  | [], line => [line.reverse]
  | c :: rest, line => if c = '\n' then line.reverse :: splitLines rest [] else splitLines rest (c :: line)

/-- The lines of a script, one stimulus or pseudo-instruction per line (R80). -/
def scriptFrom : List (List Char) → Option (List ScriptLine)
  | [] => some []
  | text :: rest =>
    (lineFrom text).bind fun ln => (scriptFrom rest).map fun l => match ln with
      | none => l
      | some x => x :: l

/-- The stimuli of a script's text under a configuration (R80, R81). -/
def assembleText (cfg : Config) (text : List Char) : Option (List Stimulus) :=
  (scriptFrom (splitLines text [])).map (assemble cfg 0)

end Sys2Proof.Machine
end

