-- ==== Sys2Proof/Tests/Slice0.lean ====
section
/-! SUPPORT. Tests of the model's own: ill-formed operands, one word per row of the opcode map, one step per operation on a
small state, and for each statement with hypotheses a state and operands that meet them. Expected values are taken from
95_test_vectors.md or worked by hand from the rule named. -/

namespace Sys2Proof.Tests
open Sys2Proof.Machine

/-- The test's instantiation of the OPEN parameters (95_test_vectors.md), with entry 5 = (0x10, 0x23, 0xFF) at power-on. -/
def cfg : Config where
  dacBits := 8
  bitPeriod := 100
  bitTol := 25
  clickCmd := 0x01
  clickDuration := 7
  txqDepth := 16
  palPowerOn := #v[(Vector.replicate 256 0).set 5 0x10, (Vector.replicate 256 0).set 5 0x23, (Vector.replicate 256 0).set 5 0xFF]

/-- Power-on at 8 bits. -/
def boot : State := State.powerOn cfg .eight

/-- A part of the next state of an answer. -/
def seen {α : Type} (o : Host.Outcome State Fault Refusal) (f : State → α) : Option α :=
  match o with
  | .next s => some (f s)
  | .fault _ => none
  | .refused _ => none

/-- The reason of a refusal. -/
def stopped (o : Host.Outcome State Fault Refusal) : Option Refusal :=
  match o with
  | .next _ => none
  | .fault _ => none
  | .refused r => some r

/-! ## Well-formedness (R71) -/

theorem test_wellFormed_refuses_rdReg4to7_at_3 : (Instr.rdReg4to7 3).wellFormed = false := by decide
theorem test_wellFormed_refuses_rdReg4to7_at_8 : (Instr.rdReg4to7 8).wellFormed = false := by decide
theorem test_wellFormed_refuses_rdReg8to15_at_7 : (Instr.rdReg8to15 7).wellFormed = false := by decide
theorem test_wellFormed_refuses_wrReg4to7_at_0 : (Instr.wrReg4to7 0 0x55).wellFormed = false := by decide
theorem test_wellFormed_refuses_wrReg8to15_at_1 : (Instr.wrReg8to15 1 0x55).wellFormed = false := by decide

/-! ## Decoding: words written out bit by bit from R67 to R69 -/

theorem test_decode_rdWaddr : decode 0b0000000000000000#16 = .ok .rdWaddr := by decide
theorem test_decode_rdPdata : decode 0b0000000100000000#16 = .ok .rdPdata := by decide
theorem test_decode_rdReg2 : decode 0b0000001000000000#16 = .ok .rdReg2 := by decide
theorem test_decode_rdRaddr : decode 0b0000001100000000#16 = .ok .rdRaddr := by decide
theorem test_decode_rdReg5 : decode 0b0000010100000000#16 = .ok (.rdReg4to7 5) := by decide
theorem test_decode_rdReg15 : decode 0b0000111100000000#16 = .ok (.rdReg8to15 15) := by decide
theorem test_decode_wrWaddr : decode 0b0010000011111111#16 = .ok (.wrWaddr 0xFF) := by decide
theorem test_decode_wrPdata : decode 0b0010000100010000#16 = .ok (.wrPdata 0x10) := by decide
theorem test_decode_wrReg2 : decode 0b0010001010100101#16 = .ok (.wrReg2 0xA5) := by decide
theorem test_decode_wrRaddr : decode 0b0010001100000101#16 = .ok (.wrRaddr 0x05) := by decide
theorem test_decode_wrReg6 : decode 0b0010011010100101#16 = .ok (.wrReg4to7 6 0xA5) := by decide
theorem test_decode_wrReg15 : decode 0b0010111101011010#16 = .ok (.wrReg8to15 15 0x5A) := by decide
theorem test_decode_scanTick : decode 0b0100010110100011#16 = .ok (.scanTick 5 0xA3) := by decide
theorem test_decode_lineChange : decode 0b0110000000000001#16 = .ok (.lineChange true) := by decide
theorem test_decode_framerSent : decode 0b1000000000000000#16 = .ok .framerSent := by decide
theorem test_decode_frameTimer : decode 0b1010000000000000#16 = .ok .frameTimer := by decide
theorem test_decode_reset : decode 0b1100000000000000#16 = .ok .reset := by decide
theorem test_decode_setBits : decode 0b1110000000000000#16 = .ok (.setBits .six) := by decide
theorem test_decode_refuses_bit12 : decode 0b0001000000000000#16 = .error .reservedField := by decide
theorem test_decode_refuses_busRead_low : decode 0b0000000110000000#16 = .error .reservedField := by decide
theorem test_decode_refuses_lineChange_bit1 : decode 0b0110000000000011#16 = .error .reservedField := by decide
theorem test_decode_refuses_framerSent_bit0 : decode 0b1000000000000001#16 = .error .reservedField := by decide
theorem test_decode_refuses_setBits_bit1 : decode 0b1110000000000010#16 = .error .reservedField := by decide

/-! ## One step per operation -/

/-- L2.2 row 2: in the middle of a triplet the entry being filled is returned. -/
theorem test_rdWaddr_in_triplet :
    seen (exec .rdWaddr { boot with writeIndex := 5, writePhase := 2 }) (fun s => (s.outputs, s.writePhase)) =
      some ([.busData 5], 2) := by decide

/-- L2.2 row 3, with entry 5: the third byte moves the read cursor. -/
theorem test_rdPdata_third_byte :
    seen (exec .rdPdata { boot with readIndex := 5, readPhase := 2 })
      (fun s => (s.outputs, s.readIndex, s.readPhase)) = some ([.busData 0xFF], 6, 0) := by decide

/-- L2.2 row 3: the read index wraps. -/
theorem test_rdPdata_wraps :
    seen (exec .rdPdata { boot with readIndex := 255, readPhase := 2 }) (fun s => s.readIndex) = some 0 := by decide

theorem test_rdReg2 : seen (exec .rdReg2 (boot.setReg 2 0xA5)) (fun s => s.outputs) = some [.busData 0xA5] := by
  decide

/-- L2.2 row 4. -/
theorem test_rdRaddr : seen (exec .rdRaddr { boot with readIndex := 9 }) (fun s => s.outputs) = some [.busData 9] := by
  decide

theorem test_rdReg6 : seen (exec (.rdReg4to7 6) (boot.setReg 6 0xA5)) (fun s => s.outputs) = some [.busData 0xA5] := by
  decide

/-- L2.2 row 5. -/
theorem test_rdReg10_after_power_on : seen (exec (.rdReg8to15 10) boot) (fun s => s.outputs) = some [.busData 0] := by
  decide

/-- L2.2 row 7: the partial triplet is discarded. -/
theorem test_wrWaddr_discards :
    seen (exec (.wrWaddr 0x20) { boot with writePhase := 1 }) (fun s => (s.writeIndex, s.writePhase)) = some (0x20, 0) := by
  decide

/-- L2.2 row 9: the commit at entry 255 wraps the write index. -/
theorem test_wrPdata_commits_and_wraps :
    seen (exec (.wrPdata 3) { boot with writeIndex := 255, writePhase := 2, stage := #v[1, 2, 0] })
      (fun s => (s.palByte 0 255, s.palByte 1 255, s.palByte 2 255, s.color 255, s.writeIndex, s.writePhase)) =
      some (1, 2, 3, ⟨1, 2, 3⟩, 0, 0) := by decide +kernel

/-- L2.3: the pen at 6 bits, while palette memory keeps the full bytes. -/
theorem test_wrPdata_pen_at_six_bits :
    seen (exec (.wrPdata 0xFF) { boot with writeIndex := 9, writePhase := 2, stage := #v[0x10, 0x23, 0], dacBits := .six })
      (fun s => (s.packedColor 9, s.palByte 1 9)) = some (0x1020FC, 0x23) := by decide +kernel

/-- L2.2 row 8: a register write leaves the triplet alone. -/
theorem test_wrReg2_in_triplet :
    seen (exec (.wrReg2 0x11) { boot with writePhase := 1, writeIndex := 3 })
      (fun s => (s.reg 2, s.writePhase, s.writeIndex)) = some (0x11, 1, 3) := by decide

/-- L2.2 row 10. -/
theorem test_wrRaddr_restarts :
    seen (exec (.wrRaddr 4) { boot with readPhase := 1, readIndex := 4 }) (fun s => (s.readIndex, s.readPhase)) =
      some (4, 0) := by decide

/-- L2.2 row 6, and its neighbour kept. -/
theorem test_wrReg6 : seen (exec (.wrReg4to7 6 0xA5) boot) (fun s => (s.reg 6, s.reg 7)) = some (0xA5, 0) := by
  decide

theorem test_wrReg15 : seen (exec (.wrReg8to15 15 0x5A) boot) (fun s => (s.reg 15, s.reg 14)) = some (0x5A, 0) := by
  decide

/-- L2.5 row 4: two changed columns, the lower one reported. -/
theorem test_scanTick_lowest_column :
    seen (exec (.scanTick 2 0x81) boot) (fun s => (s.outputs, s.rowScan 2, s.txInFlight, s.scanPosition)) =
      some ([.txSubmit 0x10 0], 0x01, true, 2) := by decide

/-- L2.5 row 8: a full queue defers the change. -/
theorem test_scanTick_full_queue :
    seen (exec (.scanTick 3 0x04) { boot with txInFlight := true, txQueue := List.replicate 16 0 })
      (fun s => (s.outputs, s.txQueue.length, s.rowScan 3)) = some ([], 16, 0) := by decide

/-- L2.5, second table, row 2. -/
theorem test_framerSent_next_byte :
    seen (exec .framerSent { boot with txInFlight := true, txQueue := [0x10, 0x17], lastTime := 70 })
      (fun s => (s.outputs, s.txQueue, s.txInFlight)) = some ([.txSubmit 0x10 70], [0x17], true) := by decide

/-- L3 program 4 row 5: seven low bits. -/
theorem test_lineChange_low_run :
    seen (exec (.lineChange true) { boot with lineLevel := false, rx := .rx 2 0x01, lastChange := 1200, lastTime := 1900 })
      (fun s => (s.rx, s.lineLevel, s.lastChange)) = some (.rx 9 0x01, true, 1900) := by decide

/-- L2.7 row 10: the falling edge at the stop bit delivers the click command. -/
theorem test_lineChange_completes_frame :
    seen (exec (.lineChange false) { boot with rx := .rx 9 0x01, lastChange := 1900, lastTime := 2000 })
      (fun s => (s.rx, s.outputs)) = some (.rx 0 0, [.toneClick 2000 7]) := by decide

/-- L2.7 row 7: too early by 25. -/
theorem test_frameTimer_too_early :
    seen (exec .frameTimer { boot with rx := .rx 9 0x01, lastChange := 1900, lastTime := 1950 })
      (fun s => (s.rx, s.outputs)) = some (.rx 9 0x01, []) := by decide

/-- L3 program 4 row 6: at the deadline. -/
theorem test_frameTimer_at_deadline :
    seen (exec .frameTimer { boot with rx := .rx 9 0x01, lastChange := 1900, lastTime := 1975 })
      (fun s => (s.rx, s.outputs)) = some (.idle, [.toneClick 1975 7]) := by decide

/-- L3 program 5 row 7. -/
theorem test_reset_in_the_middle :
    seen (exec .reset
        { boot with
          writeIndex := 0x40, writePhase := 1, stage := #v[7, 0, 0], txInFlight := true, txQueue := [0x30],
          rx := .rx 0 0, lineLevel := false, lastTime := 1050 })
      (fun s => (s.writeIndex, s.stage.toList, s.txQueue, s.rx)) = some (0, [0, 0, 0], [], .idle) := by decide

/-- R144: palette memory and the color table survive. -/
theorem test_reset_keeps_palette :
    seen (exec .reset boot) (fun s => (s.palByte 2 5, s.color 5)) = some (0xFF, ⟨0x10, 0x23, 0xFF⟩) := by decide +kernel

/-- L2.3's entry under SET_BITS 6. -/
theorem test_setBits_recomputes :
    seen (exec (.setBits .six) boot) (fun s => (s.color 5, s.palByte 1 5)) = some (⟨0x10, 0x20, 0xFC⟩, 0x23) := by
  decide +kernel

/-- L2.4 row 2. -/
theorem test_setBits_after_active :
    stopped (exec (.setBits .six) { boot with active := true }) = some .setBitsAfterActive := by decide

/-! ## The step, the classifier, the script -/

/-- L2.8 row 1: the second stimulus is out of order. -/
theorem test_step_out_of_order :
    stopped (step { boot with lastTime := 100, pending := [⟨0x0200#16, 50⟩] }) = some .outOfOrder := by decide

/-- The fetched word runs first after State.reset, whatever its free configuration. -/
theorem test_withFetchWord_runs :
    seen (step (State.reset.withFetchWord 16 0x2041)) (fun s => (s.writeIndex, s.active, s.pending)) =
      some (0x41, true, []) := by decide

/-- L2.6: 74, 75, 125, 126. -/
theorem test_classify_at_the_tolerance :
    [74, 75, 125, 126].map (classify cfg) = [none, some 1, some 1, none] := by decide

/-- L2.4 row 4. -/
theorem test_construct_refuses_seven : stopped (construct { cfg with dacBits := 7 }) = some .badDacBits := by decide

/-- R80: a time, hexadecimal and decimal numbers, a comment, a line without a time. -/
theorem test_assembleText :
    assembleText cfg ['@', '5', ' ', 'w', 'r', ' ', '0', 'x', '2', ',', ' ', '1', '7', ' ', ';', 'x', '\n', 's', 'e', 'n', 't'] =
      some [⟨0x2211#16, 5⟩, ⟨0x8000#16, 5⟩] := by decide

/-- R81 with R76: the frame of 0x01 at 1000 (L3 program 4, rows 2 to 6). -/
theorem test_sendByte :
    sendByte cfg 1000 0x01 =
      [⟨0x6000#16, 1000⟩, ⟨0x6001#16, 1100⟩, ⟨0x6000#16, 1200⟩, ⟨0x6001#16, 1900⟩, ⟨0xA000#16, 1975⟩] := by decide

/-! ## Witnesses: the hypotheses of each statement are met together -/

theorem witness_cfg_valid : cfg.Valid := by decide

theorem witness_EncodedOperationDecodesToItself : (Instr.wrReg4to7 4 0xFF).WellFormed ∧ (Instr.rdReg8to15 15).WellFormed := by
  decide

theorem witness_DecodedWordIsTheEncodingOfItsOperation : decode 0x2FFF#16 = .ok (.wrReg8to15 15 0xFF) := by decide

theorem witness_ExactlyOneRowMatchesAWordWithReservedFieldsZero :
    Word.reservedZero 0x07FF#16 = false ∧ Word.reservedZero 0x0700#16 = true := by decide

theorem witness_WordWithAReservedFieldSetMatchesNoRow :
    Word.reservedZero 0x1000#16 = false ∧ Word.reservedZero 0x6002#16 = false ∧ Word.reservedZero 0xC800#16 = false := by
  decide

/-- A state with one stimulus pending. -/
def waiting (w : Word) (t : Nat) : State := { boot with lastTime := 100, pending := [⟨w, t⟩] }

theorem witness_StepRunsThePrologueThenTheDecodedOperation :
    (waiting 0x1000#16 100).pending = [⟨0x1000#16, 100⟩] ∧ Word.reservedZero 0x1000#16 = false ∧
    Word.reservedZero 0x0100#16 = true ∧ 99 < (waiting 0x0100#16 99).lastTime ∧
    decode 0x0100#16 = .ok .rdPdata ∧ (waiting 0x0100#16 100).lastTime ≤ 100 := by decide

theorem witness_StepWithNothingPendingKeepsTheState : boot.pending = [] := rfl

/-- The second conjunct is SET_BITS pending at an active block, which is refused. -/
theorem witness_ModelRefusesExactlyTheFourCases :
    (waiting 0xE001#16 100).pending = [⟨0xE001#16, 100⟩] ∧
    stopped (step { waiting 0xE001#16 100 with active := true }) = some .setBitsAfterActive ∧
    stopped (step (waiting 0xE001#16 100)) = none ∧
    stopped (step (waiting 0x1000#16 100)) = some .reservedField ∧
    stopped (step (waiting 0x0100#16 99)) = some .outOfOrder ∧ boot.pending = [] :=
  ⟨rfl, by decide, by decide, by decide, by decide, rfl⟩

theorem witness_EveryOperationCompletesAndNoneFaults : ∀ bits, Instr.setBits .six = .setBits bits → boot.active = false :=
  fun _ _ => rfl

theorem witness_WritePaletteDataFillsTheNextSlot : ({ boot with writePhase := 1 } : State).writePhase ≠ 2 := by decide

theorem witness_ThirdPaletteByteCommitsTheTriplet :
    ({ boot with writePhase := 2, writeIndex := 255 } : State).writePhase = 2 := rfl

theorem witness_PaletteRoundTripReturnsTheBytesWritten :
    boot.writePhase = 0 ∧
    TimedFrom boot.lastTime [.wrPdata 1, .wrPdata 2, .wrPdata 3, .wrRaddr boot.writeIndex, .rdPdata, .rdPdata, .rdPdata]
      [(.wrPdata 1, 0), (.wrPdata 2, 4), (.wrPdata 3, 4), (.wrRaddr boot.writeIndex, 5), (.rdPdata, 7), (.rdPdata, 8),
        (.rdPdata, 8)] :=
  ⟨rfl, rfl, by decide⟩

theorem witness_InterleavedTransfersAdvanceEachCursorAlone :
    (exec .reset boot = .next boot.resetAll) ∧ boot.writeIndex = 0 ∧ boot.readIndex = 0 ∧ boot.writePhase = 0 ∧
    boot.readPhase = 0 ∧
    (∀ p ∈ [(Instr.wrPdata 1, 0), (.rdPdata, 0), (.wrReg8to15 15 2, 3), (.rdWaddr, 3)],
      p.1.leavesCursorsAlone = true ∧ p.1.WellFormed) ∧
    timesFrom boot.lastTime (stimuliOf [(.wrPdata 1, 0), (.rdPdata, 0), (.wrReg8to15 15 2, 3), (.rdWaddr, 3)]) = true :=
  ⟨rfl, by decide⟩

theorem witness_ConsecutiveTripletsFillConsecutiveEntries :
    boot.writePhase = 0 ∧ (List.replicate 256 ((1, 2, 3) : Byte × Byte × Byte)).length ≤ 256 ∧
    TimedFrom boot.lastTime (writeTriplets [(1, 2, 3), (4, 5, 6)])
      [(.wrPdata 1, 0), (.wrPdata 2, 1), (.wrPdata 3, 2), (.wrPdata 4, 2), (.wrPdata 5, 9), (.wrPdata 6, 10)] :=
  ⟨rfl, by decide +kernel, rfl, by decide⟩

theorem witness_WriteEntryCommitsAtItsEntryFromAnyPhase :
    TimedFrom ({ boot with writePhase := 1 } : State).lastTime (writeEntry 255 1 2 3)
      [(.wrWaddr 255, 0), (.wrPdata 1, 1), (.wrPdata 2, 2), (.wrPdata 3, 5)] :=
  ⟨rfl, by decide⟩

theorem witness_ReadEntryReturnsTheEntryFromAnyPhase :
    TimedFrom ({ boot with readPhase := 1 } : State).lastTime (readEntry 255)
      [(.wrRaddr 255, 0), (.rdPdata, 1), (.rdPdata, 2), (.rdPdata, 5)] :=
  ⟨rfl, by decide⟩

theorem witness_RepeatedIdempotentWriteChangesNothingMore :
    (Instr.wrWaddr 3).kind = .busWrite ∧ (Instr.wrWaddr 3).isDataWrite = false ∧
    exec (.wrWaddr 3) boot = .next (boot.setWriteCursor 3 0) := ⟨rfl, rfl, rfl⟩

theorem witness_SetBitsSetsTheDepthAndRecomputesEveryPen :
    boot.active = false ∧ ({ boot with active := true } : State).active = true := ⟨rfl, rfl⟩

theorem witness_ConstructionGivesThePowerOnState :
    ({ cfg with dacBits := 6 } : Config).dacBits = 6 ∧ cfg.dacBits = 8 ∧ ({ cfg with dacBits := 7 } : Config).dacBits ≠ 6 ∧
    ({ cfg with dacBits := 7 } : Config).dacBits ≠ 8 := by decide

/-- A state with a byte outstanding and `n` bytes queued. -/
def busy (n : Nat) : State := { boot with txInFlight := true, txQueue := List.replicate n 0x55 }

theorem lowest_column_7 : IsLowest (0x80#8 ^^^ boot.rowScan 15) 7 := by
  unfold IsLowest; decide

theorem witness_ScanTickReportsTheLowestChangedColumn :
    (0#8 = boot.rowScan 15) ∧ IsLowest (0x80#8 ^^^ boot.rowScan 15) 7 ∧ boot.txInFlight = false ∧
    IsLowest (0x80#8 ^^^ (busy 15).rowScan 15) 7 ∧ (busy 15).txInFlight = true ∧
    (busy 15).txQueue.length < (busy 15).config.txqDepth ∧ (busy 16).config.txqDepth ≤ (busy 16).txQueue.length :=
  ⟨by decide, lowest_column_7, rfl, lowest_column_7, rfl, by decide, by decide⟩

theorem witness_EveryChangedColumnIsReportedOneTickEach :
    TimedFrom (busy 8).lastTime (List.replicate 8 (.scanTick 3 0xFF))
      ((.scanTick 3 0xFF, 1) :: [2, 3, 3, 5, 6, 7, 8].map fun t => (.scanTick 3 0xFF, t)) ∧
    (busy 8).txQueue.length + 8 ≤ (busy 8).config.txqDepth ∧ (busy 8).txInFlight = true ∧
    boot.txQueue.length + 8 ≤ boot.config.txqDepth ∧ boot.txInFlight = false :=
  ⟨⟨rfl, by decide⟩, by decide, rfl, by decide, rfl⟩

theorem witness_ChangeMetByAFullQueueIsReportedAtTheNextTickWithRoom :
    (busy 16).config.Valid ∧ (busy 16).txInFlight = true ∧ (busy 16).txQueue.length = (busy 16).config.txqDepth ∧
    IsLowest (0x80#8 ^^^ (busy 16).rowScan 15) 7 ∧ (busy 16).lastTime ≤ 3 ∧ 3 ≤ 8 ∧ 8 ≤ 20 :=
  ⟨witness_cfg_valid, rfl, by decide, lowest_column_7, by decide, by decide, by decide⟩

theorem witness_FramerSentSubmitsTheNextByteOrClearsTheFlag :
    boot.txInFlight = false ∧ (busy 0).txInFlight = true ∧ (busy 0).txQueue = [] ∧ (busy 1).txQueue = 0x55#8 :: [] :=
  ⟨rfl, rfl, rfl, rfl⟩

theorem witness_AtMostOneSubmitWithoutAnAcknowledgement :
    (∀ st ∈ [(⟨0x4508#16, 1⟩ : Stimulus)], decode st.word ≠ .ok .framerSent ∧ decode st.word ≠ .ok .reset) ∧
    seen (applyAll [⟨0x4508#16, 1⟩] boot) (fun t => (submitCount t.outputs, t.txInFlight)) = some (1, true) ∧
    seen (applyAll [⟨0x4508#16, 1⟩] (busy 3)) (fun t => (submitCount t.outputs, t.txQueue.length)) = some (0, 4) := by
  decide

/-- A cycle of ticks with one key held, the ticks one time unit apart from a time on. -/
def heldCycle (start : Nat) : List (Instr × Nat) :=
  (scanCycle ((Vector.replicate 16 0#8).set 5 0x08#8)).zip (List.range' start 16)

theorem witness_SingleHeldKeyIsReportedOnce :
    exec .reset boot = .next boot.resetAll ∧
    TimedFrom boot.resetAll.lastTime (scanCycle ((Vector.replicate 16 0#8).set 5 0x08#8)) (heldCycle 5) ∧
    TimedFrom 20 (scanCycle ((Vector.replicate 16 0#8).set 5 0x08#8)) (heldCycle 21) ∧
    seen (applyAll (stimuliOf (heldCycle 5)) boot.resetAll) (fun v => (v.outputs, v.lastTime)) =
      some ([.txSubmit 0x2B 10], 20) :=
  ⟨rfl, ⟨by decide +kernel, by decide +kernel⟩, ⟨by decide +kernel, by decide +kernel⟩, by decide +kernel⟩

/-- The row's tick comes directly after the RESET, and after a tick of another row has put a byte in flight. -/
theorem witness_KeyHeldAcrossResetIsReportedAgain :
    IsLowest 0x80#8 7 ∧
    timesFrom boot.lastTime (stimuliOf ((.reset, 4) :: ([] ++ [(.scanTick 15 0x80, 9)]))) = true ∧
    timesFrom boot.lastTime (stimuliOf ((.reset, 4) :: ([(.scanTick 2 0x01, 6)] ++ [(.scanTick 15 0x80, 9)]))) = true ∧
    (Instr.scanTick 2 0x01).WellFormed ∧ (Instr.scanTick 2 0x01).kind ≠ .setBits ∧ Instr.scanTick 2 0x01 ≠ .reset ∧
    (∀ x, Instr.scanTick 2 0x01 ≠ .scanTick 15 x) ∧
    seen (applyAll (stimuliOf [(.reset, 4), (.scanTick 2 0x01, 6), (.scanTick 15 0x80, 9)]) boot)
      (fun v => (v.outputs, v.txQueue)) = some ([.txSubmit 0x10 6], [0x7F]) :=
  ⟨by unfold IsLowest; decide +kernel, by decide, by decide, rfl, by decide, by decide, fun _ h => (nomatch h), by decide⟩

theorem witness_PulseClassifierAnswersTheOneWholeNumberOfPeriods :
    cfg.Valid ∧ 74 + cfg.bitTol < cfg.bitPeriod ∧ classify cfg 75 = some 1 := by decide

/-- A receiving state: level, receiver, last change, now. -/
def receiving (l : Bool) (r : RxState) (since now : Nat) : State :=
  { boot with lineLevel := l, rx := r, lastChange := since, lastTime := now }

theorem witness_LineEdgesOutsideAFrame :
    (receiving true .idle 0 9).lineLevel = true ∧ (receiving true .idle 0 9).rx = .idle ∧
    (receiving true (.rx 0 3) 0 9).rx = .rx 0 3 ∧ (receiving false .idle 0 9).lineLevel = false ∧
    (receiving false .idle 0 9).rx = .idle := ⟨rfl, rfl, rfl, rfl, rfl⟩

theorem witness_RisingEdgeInAFrameCountsLowBits :
    (receiving false (.rx 0 0) 1000 1005).lineLevel = false ∧ (receiving false (.rx 0 0) 1000 1005).rx = .rx 0 0 ∧
    classify cfg (1005 - 1000) = none ∧ classify cfg (2000 - 1000) = some 10 ∧ 8 < 0 + 10 - 1 ∧
    classify cfg (1900 - 1000) = some 9 ∧ 0 + 9 - 1 ≤ 8 := by decide

theorem witness_FallingEdgeInAFrameSetsOnesOrCompletesIt :
    (receiving true (.rx 9 1) 1900 1975).lineLevel = true ∧ (receiving true (.rx 9 1) 1900 1975).rx = .rx 9 1 ∧ 1 ≤ 9 ∧
    (10 - 9) * cfg.bitPeriod ≤ 1975 - 1900 + cfg.bitTol ∧ 1974 - 1900 + cfg.bitTol < (10 - 9) * cfg.bitPeriod ∧
    classify cfg (1974 - 1900) = none ∧ 1200 - 1100 + cfg.bitTol < (10 - 1) * cfg.bitPeriod ∧
    classify cfg (1200 - 1100) = some 1 := by decide

theorem witness_FrameTimerCompletesAFrameAtItsDeadline :
    (receiving true (.rx 9 1) 1900 1975).rx = .rx 9 1 ∧ (receiving true (.rx 9 1) 1900 1975).lineLevel = true ∧
    (10 - 9) * cfg.bitPeriod ≤ 1975 - 1900 + cfg.bitTol ∧
    (∀ pos shift, (receiving true (.rx 9 1) 1900 1974).rx = .rx pos shift → 1 ≤ pos →
      (receiving true (.rx 9 1) 1900 1974).lineLevel = true →
      1974 - 1900 + cfg.bitTol < (10 - pos) * cfg.bitPeriod) := by
  refine ⟨rfl, rfl, by decide, ?_⟩
  intro pos shift h _ _
  cases h
  decide

theorem receiving_shape (now : Nat) : ReceiverShape (receiving true (.rx 9 1) 1900 now) := by
  intro pos shift h
  cases h
  exact ⟨fun h => absurd h (by decide), fun _ => ⟨by decide, fun i h1 h2 => by omega⟩⟩

theorem witness_FrameTimerActsExactlyFromTheFrameDeadline :
    (receiving true (.rx 9 1) 1900 1975).config.Valid ∧ ReceiverShape (receiving true (.rx 9 1) 1900 1975) ∧
    TransitionInPast (receiving true (.rx 9 1) 1900 1974) ∧ TransitionInPast (receiving true (.rx 9 1) 1900 1975) ∧
    (receiving true (.rx 9 1) 1900 1975).frameDeadline = some 1975 ∧ boot.frameDeadline = none := by
  refine ⟨witness_cfg_valid, receiving_shape 1975, ?_, ?_, ?_, ?_⟩
  · unfold TransitionInPast; decide
  · unfold TransitionInPast; decide
  · decide
  · decide

theorem witness_NearZeroPulseDecodesNothing :
    boot.rx = .idle ∧ boot.lineLevel = true ∧ boot.lastTime ≤ 1000 ∧ 1000 ≤ 1074 ∧
    1074 + cfg.bitTol < 1000 + cfg.bitPeriod ∧
    (receiving true (.rx 9 1) 1900 1974).rx = .rx 9 1 ∧ ReceiverShape (receiving true (.rx 9 1) 1900 1974) ∧
    1974 - 1900 + cfg.bitTol < cfg.bitPeriod :=
  ⟨rfl, rfl, by decide, by decide, by decide, rfl, receiving_shape 1974, by decide⟩

theorem witness_FrameTimerAndFallingEdgeAgreeInEitherOrder :
    (receiving true (.rx 9 1) 1900 1900).lastTime ≤ 1975 ∧ (receiving true (.rx 9 1) 1900 1900).rx = .rx 9 1 ∧
    (receiving true (.rx 9 1) 1900 1900).lineLevel = true ∧
    (10 - 9) * cfg.bitPeriod ≤ 1975 - (receiving true (.rx 9 1) 1900 1900).lastChange + cfg.bitTol := by decide

theorem witness_ExactFrameDeliversItsByte :
    boot.config.Valid ∧ boot.rx = .idle ∧ boot.lineLevel = true ∧ boot.lastTime ≤ 1000 ∧
    1000 + 10 * boot.config.bitPeriod - boot.config.bitTol ≤ 1975 :=
  ⟨witness_cfg_valid, rfl, rfl, by decide, by decide⟩

theorem witness_PowerOnStateHoldsTheValuesOfTheTable : boot = State.powerOn cfg .eight := rfl

theorem witness_PaletteAndKeyboardShareNoState :
    (Instr.wrPdata 1).isPalette = true ∧ (Instr.scanTick 5 8).isKeyboard = true := by decide

theorem witness_ReceiveAndTransmitAreIndependent :
    (Instr.scanTick 5 8).kind = .scanTick ∧ Instr.framerSent.kind = .framerSent ∧
    (Instr.lineChange true).kind = .lineChange ∧ Instr.frameTimer.kind = .frameTimer ∧
    exec .frameTimer boot = .next boot.expireTimer ∧ exec .framerSent boot = .next boot.framerDone :=
  ⟨rfl, rfl, rfl, rfl, rfl, rfl⟩

theorem witness_RegisterValuesAffectNothingElse :
    (Instr.wrPdata 1).isGeneralRegister = false ∧ Instr.wrPdata 1 ≠ .reset := by decide

/-- Each piece of state is changed by some operation. -/
theorem witness_EachPieceOfStateHasOnlyItsWriters :
    seen (exec (.wrReg2 1) boot) (fun t => decide (t.regs ≠ boot.regs)) = some true ∧
    seen (exec (.wrWaddr 1) boot) (fun t => decide (t.writeIndex ≠ boot.writeIndex)) = some true ∧
    seen (exec (.wrRaddr 1) boot) (fun t => decide (t.readIndex ≠ boot.readIndex)) = some true ∧
    seen (exec (.wrPdata 1) boot) (fun t => decide (t.stage ≠ boot.stage) && decide (t.writePhase ≠ boot.writePhase)) =
      some true ∧
    seen (exec .rdPdata boot) (fun t => decide (t.readPhase ≠ boot.readPhase) && decide (t.outputs ≠ boot.outputs)) =
      some true ∧
    seen (exec (.wrPdata 1) { boot with writePhase := 2 })
      (fun t => decide (t.palByte 2 0 ≠ boot.palByte 2 0) && decide (t.color 0 ≠ boot.color 0)) = some true ∧
    seen (exec (.setBits .six) boot) (fun t => decide (t.dacBits ≠ boot.dacBits)) = some true ∧
    seen (exec (.scanTick 5 8) boot) (fun t => decide (t.scanPosition ≠ boot.scanPosition) &&
      decide (t.lastScan ≠ boot.lastScan) && decide (t.txInFlight ≠ boot.txInFlight)) = some true ∧
    seen (exec (.lineChange false) boot) (fun t => decide (t.lineLevel ≠ boot.lineLevel) && decide (t.rx ≠ boot.rx)) =
      some true := by decide +kernel

theorem witness_StepsKeepTheConfigurationAndExtendTheOutputs : step boot = .next boot := rfl

theorem witness_BusReadsEmitOneByteAndBusWritesNone :
    Instr.rdPdata.kind = .busRead ∧ (Instr.wrPdata 1).kind = .busWrite := ⟨rfl, rfl⟩

theorem boot_inv : Inv boot where
  pens := fun e => by simp [State.color, State.penOf, State.palByte, boot, State.powerOn]
  queue := ⟨fun h => absurd rfl h, Nat.zero_le _⟩
  receiver := fun _ _ h => by cases h
  hidden := by unfold HiddenRegsZero; decide
  pristine := fun _ => rfl
  past := Nat.le_refl _
  configured := witness_cfg_valid

/-- The state with a bus read pending has the invariant, and a step answers from it. -/
theorem witness_StepKeepsTheInvariant :
    Inv { boot with pending := [⟨0x0100#16, 3⟩] } ∧
    seen (step { boot with pending := [⟨0x0100#16, 3⟩] }) (fun t => (t.lastTime, t.readPhase)) = some (3, 1) :=
  ⟨{ pens := boot_inv.pens, queue := boot_inv.queue, receiver := boot_inv.receiver, hidden := boot_inv.hidden,
     pristine := fun _ => rfl, past := boot_inv.past, configured := boot_inv.configured }, by decide⟩

theorem witness_PowerOnHasTheInvariant : cfg.Valid := witness_cfg_valid

theorem boot_reachable : Reachable boot := .powerOn cfg .eight witness_cfg_valid (by decide)

/-- A reachable state with a frame begun: the line has fallen once. -/
theorem witness_Reachable :
    Reachable ((((boot.deliverStimuli [⟨0x6000#16, 3⟩]).fetch.map Prod.snd).getD boot).prologue .lineChange 3 |>.changeLine false) ∧
    ((((boot.deliverStimuli [⟨0x6000#16, 3⟩]).fetch.map Prod.snd).getD boot).prologue .lineChange 3 |>.changeLine false).rx =
      .rx 0 0 :=
  ⟨.step _ _ (.deliver boot [⟨0x6000#16, 3⟩] boot_reachable) rfl, rfl⟩

theorem witness_ReachableColorTableHoldsThePens : Reachable boot := boot_reachable

theorem witness_ReachableReceiverHasItsShape : Reachable boot := boot_reachable

theorem witness_ReachableQueueWaitsOnlyBehindAnOutstandingByte : Reachable boot := boot_reachable

theorem witness_SaveStateRoundTrips : PenTable boot := boot_inv.pens

theorem witness_OutstandingByteIsOwedAnAcknowledgement :
    (boot.txInFlight = true → 0 < (⟨0, true⟩ : Environment).owed) ∧
    ((dutiesKept [⟨0x4508#16, 1⟩, ⟨0x4601#16, 2⟩, ⟨0x8000#16, 3⟩] ⟨0, true⟩ boot).map fun p => (p.1.owed, p.2.txInFlight)) =
      some (1, true) := by decide

end Sys2Proof.Tests
end

section
/-! The scope of the block (00_scope.md): what a step with a stimulus pending runs (O7), and when the model refuses (O9). -/

namespace Sys2Proof

/-- The decoder rejects a word exactly when one of its kind's reserved fields is not zero (30_encoding.md R66 to R69, R78). -/
theorem decode_cases (w : Word) :
    (w.reservedZero = false ∧ decode w = .error .reservedField) ∨ (w.reservedZero = true ∧ ∃ i, decode w = .ok i) := by
  by_cases hbit : w.reservedBit = 0#1
  case neg => left; simp [Word.reservedZero, decode, hbit]
  simp only [Word.reservedZero, decode, hbit, decide_true, Bool.true_and, if_true]
  cases Kind.ofBits w.kindField with
  | busRead => by_cases h : w.lowField = 0#8 <;> simp [h]
  | busWrite | scanTick => simp
  | lineChange | setBits => by_cases h : w.above0Field = 0#11 <;> simp [h]
  | framerSent | frameTimer | reset => by_cases h : w.restField = 0#12 <;> simp [h]

theorem decode_of_reservedZero_eq_false {w : Word} (h : w.reservedZero = false) : decode w = .error .reservedField := by
  obtain ⟨-, hd⟩ | ⟨ht, -⟩ := decode_cases w
  · exact hd
  · exact absurd (h.symm.trans ht) Bool.false_ne_true

theorem decode_of_reservedZero_eq_true {w : Word} (h : w.reservedZero = true) : ∃ i, decode w = .ok i := by
  obtain ⟨hf, -⟩ | ⟨-, hd⟩ := decode_cases w
  · exact absurd (hf.symm.trans h) Bool.false_ne_true
  · exact hd

/-- The word of SET_BITS decodes at both depths. -/
theorem decode_encode_setBits (bits : BitDepth) : decode (encode (.setBits bits)) = .ok (.setBits bits) := by
  cases bits <;> rfl

theorem BitDepth.ofNat?_eq_none_iff (n : Nat) : BitDepth.ofNat? n = none ↔ n ≠ 6 ∧ n ≠ 8 := by
  by_cases h6 : n = 6
  · simp [BitDepth.ofNat?, h6]
  · by_cases h8 : n = 8 <;> simp [BitDepth.ofNat?, h6, h8]

end Sys2Proof

namespace Sys2Proof.Machine

/-! ## The prologue's two refusals (R18) -/

theorem applyStimulus_of_reserved_field {st : Stimulus} (s : State) (h : st.word.reservedZero = false) :
    applyStimulus st s = .refused .reservedField := by
  simp only [applyStimulus, decode_of_reservedZero_eq_false h]

theorem applyStimulus_of_out_of_order {st : Stimulus} {s : State} (hz : st.word.reservedZero = true)
    (ht : st.time < s.lastTime) : applyStimulus st s = .refused .outOfOrder := by
  obtain ⟨i, hi⟩ := decode_of_reservedZero_eq_true hz
  simp only [applyStimulus, hi, if_pos ht]

/-! ## The step as the stimulus it applies -/

theorem step_of_pending_nil {s : State} (h : s.pending = []) : step s = .next s := by
  simp only [step, stepPending, State.fetch, h]

theorem step_of_pending_cons {s : State} {st : Stimulus} {rest : List Stimulus} (h : s.pending = st :: rest) :
    step s = applyStimulus st { s with pending := rest } := by
  simp only [step, stepPending, State.fetch, h]

/-- Settles O7: each clause is one branch of the prologue, met by the state without the stimulus. -/
theorem stepRunsThePrologueThenTheDecodedOperation : Obligations.StepRunsThePrologueThenTheDecodedOperation := by
  intro s st rest hp
  rw [step_of_pending_cons hp]
  refine ⟨applyStimulus_of_reserved_field _, fun hz ht => applyStimulus_of_out_of_order hz ht, fun i hi ht => ?_⟩
  exact applyStimulus_eq_exec st { s with pending := rest } i hi ht

/-! ## When a stimulus is refused (R15) -/

@[simp] theorem activeAfter_setBits (active : Bool) : activeAfter active .setBits = active := by simp [activeAfter]

/-- An operation is refused exactly when it is SET_BITS at an active block (40_palette.md R98). -/
theorem exec_refused_iff (i : Instr) (s : State) :
    (∃ r, exec i s = .refused r) ↔ (∃ bits, i = .setBits bits) ∧ s.active = true := by
  constructor
  · rintro ⟨r, hr⟩
    obtain ⟨t, ht⟩ | ⟨bits, hi, ha, -⟩ := exec_cases i s
    · cases ht.symm.trans hr
    · exact ⟨⟨bits, hi⟩, ha⟩
  · rintro ⟨⟨bits, rfl⟩, ha⟩
    exact ⟨.setBitsAfterActive, by simp only [exec, execSetBits, if_pos ha]⟩

/-- The refusal after the prologue is decided by `active` before it: the prologue of SET_BITS leaves `active` alone (R18). -/
theorem exec_prologue_refused_iff (i : Instr) (s : State) (t : Nat) :
    (∃ r, exec i (s.prologue i.kind t) = .refused r) ↔ (∃ bits, i = .setBits bits) ∧ s.active = true := by
  rw [exec_refused_iff]
  refine and_congr_right ?_
  rintro ⟨bits, rfl⟩
  rw [State.prologue_active, Instr.kind, activeAfter_setBits]

/-- The three ways a stimulus can be refused (R15). -/
theorem applyStimulus_refused_iff (st : Stimulus) (s : State) :
    (∃ r, applyStimulus st s = .refused r) ↔
      st.word.reservedZero = false ∨ st.time < s.lastTime ∨
      (∃ bits, decode st.word = .ok (.setBits bits)) ∧ s.active = true := by
  obtain ⟨hz, -⟩ | ⟨hz, i, hi⟩ := decode_cases st.word
  · exact iff_of_true ⟨_, applyStimulus_of_reserved_field s hz⟩ (.inl hz)
  by_cases ht : st.time < s.lastTime
  · exact iff_of_true ⟨_, applyStimulus_of_out_of_order hz ht⟩ (.inr (.inl ht))
  · rw [applyStimulus_eq_exec st s i hi (Nat.le_of_not_lt ht), exec_prologue_refused_iff]
    simp [hz, ht, hi]

/-! ## Construction (40_palette.md R98) -/

/-- With a depth to set, construction applies its SET_BITS to the power-on state. -/
theorem construct_of_ofNat?_eq_some {cfg : Config} {bits : BitDepth} (h : BitDepth.ofNat? cfg.dacBits = some bits) :
    construct cfg = .next (((State.powerOn cfg bits).prologue .setBits 0).setDepth bits) := by
  have happly := applyStimulus_eq_exec (firstSetBits bits) (State.powerOn cfg bits) _ (decode_encode_setBits bits)
    (Nat.le_refl 0)
  simp only [construct, h]
  exact happly

theorem construct_refused_iff (cfg : Config) :
    (∃ r, construct cfg = .refused r) ↔ cfg.dacBits ≠ 6 ∧ cfg.dacBits ≠ 8 := by
  rw [← BitDepth.ofNat?_eq_none_iff]
  cases h : BitDepth.ofNat? cfg.dacBits with
  | none => simp [construct, h]
  | some bits => simp [construct_of_ofNat?_eq_some h]

/-- Settles O9: the step's refusals are those of the stimulus it takes, and construction's is DAC_BITS alone. -/
theorem modelRefusesExactlyTheFourCases : Obligations.ModelRefusesExactlyTheFourCases := by
  refine ⟨fun s st rest hp => ?_, fun s hp r hr => ?_, construct_refused_iff⟩
  · rw [step_of_pending_cons hp]
    exact applyStimulus_refused_iff st { s with pending := rest }
  · cases (step_of_pending_nil hp).symm.trans hr

end Sys2Proof.Machine
end

section
/-! Concatenated fields as arithmetic: the value of a stimulus word and the packed form of a color (O25); and the operands a
decoded word can carry. -/

namespace Sys2Proof

theorem toNat_append_eq_add {m n : Nat} (x : BitVec m) (y : BitVec n) :
    (x ++ y).toNat = x.toNat * 2 ^ n + y.toNat := by
  rw [BitVec.toNat_append, ← Nat.shiftLeft_add_eq_or_of_lt y.isLt, Nat.shiftLeft_eq]

/-- The value of a word from its fields (30_encoding.md R65 to R68). -/
theorem wordOf_toNat (k : Kind) (h : BitVec 4) (l : Byte) :
    (wordOf k h l).toNat = k.bits.toNat * 8192 + h.toNat * 256 + l.toNat := by
  change (((k.bits ++ 0#1) ++ h) ++ l).toNat = _
  simp only [toNat_append_eq_add, BitVec.toNat_ofNat]
  omega

/-! ## Decoded operations are well-formed -/

/-- An address that is not 0 to 3 and not 4 to 7 is 8 to 15 (30_encoding.md R71). -/
theorem Addr4.in8to15_of_not_lower : ∀ a : Addr4, a ≠ 0x0#4 → a ≠ 0x1#4 → a ≠ 0x2#4 → a ≠ 0x3#4 → ¬ Addr4.in4to7 a →
    Addr4.in8to15 a := by
  decide

theorem busReadOf_wellFormed (a : Addr4) : (busReadOf a).WellFormed := by
  unfold busReadOf
  split_ifs with h0 h1 h2 h3 h4
  case pos | pos | pos | pos => rfl
  · exact h4
  · exact Addr4.in8to15_of_not_lower a h0 h1 h2 h3 h4

theorem busWriteOf_wellFormed (a : Addr4) (d : Byte) : (busWriteOf a d).WellFormed := by
  unfold busWriteOf
  split_ifs with h0 h1 h2 h3 h4
  case pos | pos | pos | pos => rfl
  · exact h4
  · exact Addr4.in8to15_of_not_lower a h0 h1 h2 h3 h4

/-- The decoder answers only operations whose operands their row admits (30_encoding.md R71, R77). -/
theorem decode_wellFormed {w : Word} {i : Instr} (h : decode w = .ok i) : i.WellFormed := by
  by_cases hbit : w.reservedBit = 0#1
  case neg => simp [decode, hbit] at h
  cases hk : Kind.ofBits w.kindField with
  | busRead =>
    by_cases hlow : w.lowField = 0#8
    · obtain rfl : busReadOf w.highField = i := by simpa [decode, hbit, hk, hlow] using h
      exact busReadOf_wellFormed _
    · simp [decode, hbit, hk, hlow] at h
  | busWrite =>
    obtain rfl : busWriteOf w.highField w.lowField = i := by simpa [decode, hbit, hk] using h
    exact busWriteOf_wellFormed _ _
  | scanTick =>
    obtain rfl : Instr.scanTick w.highField w.lowField = i := by simpa [decode, hbit, hk] using h
    rfl
  | lineChange | framerSent | frameTimer | reset | setBits =>
    simp only [decode, hbit, hk, if_true] at h
    split at h <;> cases h
    rfl

namespace Machine

/-- Settles O25: the color is the concatenation of its channels, red first. -/
theorem packedColorPlacesRedInTheTopByte : Obligations.PackedColorPlacesRedInTheTopByte := by
  intro c
  change ((c.red ++ c.green) ++ c.blue).toNat = _
  simp only [toNat_append_eq_add]
  omega

end Machine

end Sys2Proof
end

section
/-! The pieces of the state and their writers (10_state.md): what each composite operation leaves unchanged (O16), which
operations write which piece (O51), and what a whole step keeps (O52). -/

namespace Sys2Proof.Machine

/-! ## What the composite operations leave unchanged -/

/-- A tick writes the scan and transmit side and extends the outputs, nothing else (41_keyboard_scan.md R101, R104). -/
theorem State.scanRow_frame (s : State) (r : Row) (sample : Byte) :
    ∃ recorded inFlight queue o, s.scanRow r sample = { s with
      scanPosition := r
      lastScan := recorded
      txInFlight := inFlight
      txQueue := queue
      outputs := s.outputs ++ o } := by
  obtain ⟨-, hscan⟩ | ⟨c, -, hscan⟩ := s.scanRow_cases r sample
  · exact ⟨s.lastScan, s.txInFlight, s.txQueue, [], by rw [hscan, List.append_nil]; rfl⟩
  obtain ⟨-, h⟩ | ⟨-, -, h⟩ | ⟨-, -, h⟩ := (s.setScanPosition r).reportChange_cases r c (sample.getLsbD c.toNat)
  · exact ⟨_, _, _, _, hscan.trans h⟩
  · exact ⟨_, _, _, [], by rw [hscan, h, List.append_nil]; rfl⟩
  · exact ⟨s.lastScan, s.txInFlight, s.txQueue, [], by rw [hscan, h, List.append_nil]; rfl⟩

/-- An acknowledgement writes the transmit side and extends the outputs, nothing else (R105, R106). -/
theorem State.framerDone_frame (s : State) :
    ∃ inFlight queue o, s.framerDone = { s with
      txInFlight := inFlight
      txQueue := queue
      outputs := s.outputs ++ o } := by
  obtain ⟨-, h⟩ | ⟨-, -, h⟩ | ⟨b, rest, -, -, h⟩ := s.framerDone_cases
  · exact ⟨s.txInFlight, s.txQueue, [], by rw [h, List.append_nil]⟩
  · exact ⟨false, s.txQueue, [], by rw [h, List.append_nil]⟩
  · exact ⟨s.txInFlight, rest, _, h⟩

/-- A level report that is a transition records it and decodes the pulse it ends (42_keyboard_line.md R112). -/
theorem State.changeLine_transition (s : State) :
    ∃ o, s.changeLine (!s.lineLevel) = { s with
      lineLevel := !s.lineLevel
      lastChange := s.lastTime
      rx := (decodePulse s.config s.lineLevel (s.lastTime - s.lastChange) s.rx).1
      outputs := s.outputs ++ o } := by
  obtain ⟨hl, -⟩ | ⟨-, h⟩ := s.changeLine_cases (!s.lineLevel)
  · exact absurd hl (Bool.not_ne_self _)
  · obtain ⟨o, ho⟩ := State.deliver_outputs
      (s.setRx (decodePulse s.config s.lineLevel (s.lastTime - s.lastChange) s.rx).1)
      (decodePulse s.config s.lineLevel (s.lastTime - s.lastChange) s.rx).2
    exact ⟨o, by rw [h, ho]; rfl⟩

/-- A level report writes the receive side and extends the outputs, nothing else (R112, R113). -/
theorem State.changeLine_frame (s : State) (l : Bool) :
    ∃ level since r o, s.changeLine l = { s with
      lineLevel := level
      lastChange := since
      rx := r
      outputs := s.outputs ++ o } := by
  obtain ⟨-, h⟩ | ⟨rfl, -⟩ := s.changeLine_cases l
  · exact ⟨s.lineLevel, s.lastChange, s.rx, [], by rw [h, List.append_nil]⟩
  · obtain ⟨o, ho⟩ := s.changeLine_transition
    exact ⟨_, _, _, o, ho⟩

/-- The receive timer writes the receiver and extends the outputs, nothing else (R121). -/
theorem State.expireTimer_frame (s : State) :
    ∃ r o, s.expireTimer = { s with rx := r, outputs := s.outputs ++ o } := by
  obtain ⟨-, h⟩ | ⟨b, -, h⟩ := s.expireTimer_cases
  · exact ⟨s.rx, [], by rw [h, List.append_nil]⟩
  · obtain ⟨o, ho⟩ := s.deliver_outputs (some b)
    exact ⟨.idle, o, by rw [h, ho]; rfl⟩

/-- The palette-data write of the first two bytes of a triplet (40_palette.md R89). -/
theorem State.writeData_of_partial {s : State} (h : s.writePhase ≠ 2) (d : Byte) :
    s.writeData d =
      { s with stage := s.stage.set s.writePhase.val d, writePhase := nextPhase s.writePhase } := by
  obtain ⟨-, hw⟩ | ⟨h2, -⟩ := s.writeData_cases d
  · exact hw
  · exact absurd h2 h

/-- The palette-data write of the third byte of a triplet (R89, R90). -/
theorem State.writeData_of_third {s : State} (h : s.writePhase = 2) (d : Byte) :
    s.writeData d = (s.setStage 2 d).commit := by
  obtain ⟨h2, -⟩ | ⟨-, hw⟩ := s.writeData_cases d
  · exact absurd h h2
  · exact hw

/-- A phase that is not the last is followed by the next one (10_state.md R28). -/
theorem nextPhase_val {k : Channel} (h : k ≠ 2) : (nextPhase k).val = k.val + 1 := by
  revert k; decide

/-- Settles O16: the partial write of R89, with the frame of its record update. -/
theorem writePaletteDataFillsTheNextSlot : Obligations.WritePaletteDataFillsTheNextSlot := by
  intro s d hphase
  refine ⟨?_, _, congrArg Host.Outcome.next (State.writeData_of_partial hphase d), rfl, nextPhase_val hphase,
    fun k => ?_⟩
  · rw [encode, wordOf_toNat]
    rfl
  · by_cases hk : k = s.writePhase
    · simp [hk]
    · have : s.writePhase.val ≠ k.val := fun h => hk (Fin.ext h.symm)
      simp [hk, this]

/-! ## Writers -/

/-- SET_BITS answers a next state only before the block is active (40_palette.md R98). -/
theorem exec_setBits_next {bits : BitDepth} {s t : State} (h : exec (.setBits bits) s = .next t) :
    s.active = false ∧ t = s.setDepth bits := by
  simp only [exec, execSetBits] at h
  split at h
  · cases h
  · next ha =>
    cases h
    exact ⟨Bool.eq_false_of_not_eq_true ha, rfl⟩

/-- The writers the rules of 10_state.md name for each piece of state, for an operation that took `s` to `t`. -/
structure OnlyWritersWrite (i : Instr) (s t : State) : Prop where
  regs : t.regs ≠ s.regs → (i.kind = .busWrite ∧ i.isGeneralRegister = true) ∨ i = .reset
  writeIndex : t.writeIndex ≠ s.writeIndex →
    (∃ d, i = .wrWaddr d) ∨ (i.isDataWrite = true ∧ s.writePhase = 2) ∨ i = .reset
  readIndex : t.readIndex ≠ s.readIndex →
    (∃ d, i = .wrRaddr d) ∨ (i = .rdPdata ∧ s.readPhase = 2) ∨ i = .reset
  writePhase : t.writePhase ≠ s.writePhase → i.isDataWrite = true ∨ (∃ d, i = .wrWaddr d) ∨ i = .reset
  readPhase : t.readPhase ≠ s.readPhase → i = .rdPdata ∨ (∃ d, i = .wrRaddr d) ∨ i = .reset
  stage : t.stage ≠ s.stage → i.isDataWrite = true ∨ i = .reset
  pal : t.pal ≠ s.pal → i.isDataWrite = true ∧ s.writePhase = 2
  exposed : t.exposed ≠ s.exposed → (i.isDataWrite = true ∧ s.writePhase = 2) ∨ i.kind = .setBits
  dacBits : t.dacBits ≠ s.dacBits → i.kind = .setBits
  scan : t.scanPosition ≠ s.scanPosition ∨ t.lastScan ≠ s.lastScan → i.kind = .scanTick ∨ i = .reset
  tx : t.txInFlight ≠ s.txInFlight ∨ t.txQueue ≠ s.txQueue → i.kind = .scanTick ∨ i = .framerSent ∨ i = .reset
  line : t.lineLevel ≠ s.lineLevel ∨ t.lastChange ≠ s.lastChange → i.kind = .lineChange ∨ i = .reset
  rx : t.rx ≠ s.rx → i.kind = .lineChange ∨ i = .frameTimer ∨ i = .reset
  outputs : t.outputs ≠ s.outputs →
    i.kind = .busRead ∨ i.kind = .scanTick ∨ i = .framerSent ∨ i.kind = .lineChange ∨ i = .frameTimer
  carried : t.config = s.config ∧ t.active = s.active ∧ t.lastTime = s.lastTime ∧ t.pending = s.pending

theorem exec_onlyWritersWrite {i : Instr} {s t : State} (h : exec i s = .next t) : OnlyWritersWrite i s t := by
  cases i with
  | rdWaddr | rdReg2 | rdRaddr | rdReg4to7 | rdReg8to15 =>
    cases h
    constructor <;> simp [Instr.kind, State.readReg]
  | rdPdata =>
    cases h
    rw [s.readData_eq]
    constructor <;> simp [Instr.kind]
  | wrWaddr | wrRaddr | wrReg2 | wrReg4to7 | wrReg8to15 =>
    cases h
    constructor <;> simp [Instr.kind, Instr.isGeneralRegister]
  | wrPdata d =>
    cases h
    by_cases hp : s.writePhase = 2
    · rw [State.writeData_of_third hp, State.commit_eq]
      constructor <;> simp [Instr.isDataWrite, hp]
    · rw [State.writeData_of_partial hp]
      constructor <;> simp [Instr.isDataWrite]
  | scanTick r sample =>
    cases h
    obtain ⟨_, _, _, _, hf⟩ := s.scanRow_frame r sample
    rw [hf]
    constructor <;> simp [Instr.kind]
  | lineChange l =>
    cases h
    obtain ⟨_, _, _, _, hf⟩ := s.changeLine_frame l
    rw [hf]
    constructor <;> simp [Instr.kind]
  | framerSent =>
    cases h
    obtain ⟨_, _, _, hf⟩ := s.framerDone_frame
    rw [hf]
    constructor <;> simp [Instr.kind]
  | frameTimer =>
    cases h
    obtain ⟨_, _, hf⟩ := s.expireTimer_frame
    rw [hf]
    constructor <;> simp [Instr.kind]
  | reset =>
    cases h
    constructor <;> simp [Instr.kind]
  | setBits bits =>
    obtain ⟨-, rfl⟩ := exec_setBits_next h
    constructor <;> simp [Instr.kind]

/-- The palette and the depth are as before an operation that neither writes palette data nor sets the depth. -/
theorem OnlyWritersWrite.palette_eq {i : Instr} {s t : State} (w : OnlyWritersWrite i s t) (hd : i.isDataWrite = false)
    (hb : i.kind ≠ .setBits) : t.exposed = s.exposed ∧ t.pal = s.pal ∧ t.dacBits = s.dacBits := by
  refine ⟨?_, ?_, ?_⟩ <;> by_contra hne
  · simpa [hd, hb] using w.exposed hne
  · simpa [hd] using w.pal hne
  · exact hb (w.dacBits hne)

theorem OnlyWritersWrite.regs_eq {i : Instr} {s t : State} (w : OnlyWritersWrite i s t)
    (hw : i.kind ≠ .busWrite ∨ i.isGeneralRegister = false) (hr : i ≠ .reset) : t.regs = s.regs := by
  by_contra hne
  obtain ⟨hkind, hreg⟩ | hreset := w.regs hne
  · simp [hkind, hreg] at hw
  · exact hr hreset

theorem OnlyWritersWrite.tx_eq {i : Instr} {s t : State} (w : OnlyWritersWrite i s t) (hk : i.kind ≠ .scanTick)
    (hf : i ≠ .framerSent) (hr : i ≠ .reset) : t.txInFlight = s.txInFlight ∧ t.txQueue = s.txQueue := by
  by_contra hne
  simpa [hk, hf, hr] using w.tx (not_and_or.mp hne)

theorem OnlyWritersWrite.line_eq {i : Instr} {s t : State} (w : OnlyWritersWrite i s t) (hk : i.kind ≠ .lineChange)
    (hr : i ≠ .reset) : t.lineLevel = s.lineLevel ∧ t.lastChange = s.lastChange := by
  by_contra hne
  exact (w.line (not_and_or.mp hne)).elim hk hr

theorem OnlyWritersWrite.rx_eq {i : Instr} {s t : State} (w : OnlyWritersWrite i s t) (hk : i.kind ≠ .lineChange)
    (hf : i ≠ .frameTimer) (hr : i ≠ .reset) : t.rx = s.rx := by
  by_contra hne
  exact (w.rx hne).elim hk (Or.elim · hf hr)

/-- Settles O51: the clauses are the fields of `OnlyWritersWrite`. -/
theorem eachPieceOfStateHasOnlyItsWriters : Obligations.EachPieceOfStateHasOnlyItsWriters := by
  intro i s t h
  have w := exec_onlyWritersWrite h
  exact ⟨w.regs, w.writeIndex, w.readIndex, w.writePhase, w.readPhase, w.stage, w.pal, w.exposed, w.dacBits, w.scan, w.tx,
    w.line, w.rx, w.outputs, w.carried⟩

/-! ## What a whole step keeps -/

/-- Outputs are only appended (10_state.md R45). -/
theorem exec_extends_outputs {i : Instr} {s t : State} (h : exec i s = .next t) : ∃ o, t.outputs = s.outputs ++ o := by
  cases i with
  | rdWaddr | rdReg2 | rdRaddr | rdReg4to7 | rdReg8to15 => cases h; exact ⟨_, rfl⟩
  | rdPdata => cases h; exact ⟨_, congrArg State.outputs s.readData_eq⟩
  | scanTick r sample =>
    cases h
    obtain ⟨_, _, _, o, hf⟩ := s.scanRow_frame r sample
    exact ⟨o, congrArg State.outputs hf⟩
  | lineChange l =>
    cases h
    obtain ⟨_, _, _, o, hf⟩ := s.changeLine_frame l
    exact ⟨o, congrArg State.outputs hf⟩
  | framerSent =>
    cases h
    obtain ⟨_, _, o, hf⟩ := s.framerDone_frame
    exact ⟨o, congrArg State.outputs hf⟩
  | frameTimer =>
    cases h
    obtain ⟨_, o, hf⟩ := s.expireTimer_frame
    exact ⟨o, congrArg State.outputs hf⟩
  | _ =>
    refine ⟨[], ?_⟩
    rw [List.append_nil]
    by_contra hne
    simpa [Instr.kind] using (exec_onlyWritersWrite h).outputs hne

/-- What a step that answers a next state has done: nothing, or one operation after its prologue (00_scope.md R18; log 2). -/
theorem step_next_cases {s t : State} (h : step s = .next t) :
    t = s ∨ ∃ (i : Instr) (now : Nat) (rest : List Stimulus), i.WellFormed ∧ s.lastTime ≤ now ∧
      exec i ({ s with pending := rest }.prologue i.kind now) = .next t := by
  obtain ⟨-, rfl⟩ | ⟨st, rest, -, happly⟩ := step_next s t h
  · exact .inl rfl
  · obtain ⟨i, hdec, htime, hexec⟩ := applyStimulus_next st _ t happly
    exact .inr ⟨i, st.time, rest, decode_wellFormed hdec, htime, hexec⟩

/-- Settles O52: the operation keeps what the prologue left, and the prologue never clears `active` nor goes back in time. -/
theorem stepsKeepTheConfigurationAndExtendTheOutputs :
    Obligations.StepsKeepTheConfigurationAndExtendTheOutputs := by
  intro s t h
  obtain rfl | ⟨i, now, rest, -, hnow, hexec⟩ := step_next_cases h
  · exact ⟨rfl, id, Nat.le_refl _, [], (List.append_nil _).symm⟩
  obtain ⟨hconfig, hactive, htime, -⟩ := (exec_onlyWritersWrite hexec).carried
  obtain ⟨o, ho⟩ := exec_extends_outputs hexec
  refine ⟨hconfig, fun ha => ?_, ?_, o, ho⟩
  · rw [hactive, State.prologue_active, activeAfter, ha, Bool.true_or]
  · rw [htime]; exact hnow

end Sys2Proof.Machine
end

section
/-! The invariant of the block: power-on has it (O47, O55), every step keeps it (O54), so every reachable state has it (O56,
O57, O58); and the save-state that the palette's part of it makes exact (O59). -/

namespace Sys2Proof

theorem BitDepth.ofNat?_toNat (bits : BitDepth) : BitDepth.ofNat? bits.toNat = some bits := by cases bits <;> rfl

/-- The free parameters of `State.reset` lie in the ranges of 00_scope.md R9. -/
theorem Config.given_valid : Config.given.Valid := by
  refine ⟨?_, Nat.succ_pos _, ?_, by decide⟩
  · cases h : Config.givenDepth <;> simp [Config.given, h, BitDepth.toNat]
  · have hmod : Config.tolDraw % ((Config.periodDraw + 2) / 2) < (Config.periodDraw + 2) / 2 :=
      Nat.mod_lt _ (by omega)
    simp only [Config.given]
    omega

namespace Machine

/-! ## The parts of the invariant, as facts about the fields they read -/

/-- The color table is determined by palette memory and the depth (10_state.md R32). -/
theorem penTable_iff (s : State) : PenTable s ↔ s.exposed = pensOf s.pal s.dacBits := by
  constructor
  · intro h
    ext1 e he
    have hcolor := h (BitVec.ofNat 8 e)
    simpa [State.color, State.penOf, State.palByte, Nat.mod_eq_of_lt he] using hcolor
  · intro h e
    simp [State.color, State.penOf, State.palByte, h]

theorem PenTable.congr {s t : State} (h : PenTable s) (he : t.exposed = s.exposed) (hp : t.pal = s.pal)
    (hd : t.dacBits = s.dacBits) : PenTable t := by
  rw [penTable_iff, he, hp, hd]
  exact (penTable_iff s).mp h

theorem QueueDiscipline.congr {s t : State} (h : QueueDiscipline s) (hf : t.txInFlight = s.txInFlight)
    (hq : t.txQueue = s.txQueue) (hc : t.config = s.config) : QueueDiscipline t := by
  unfold QueueDiscipline
  rw [hf, hq, hc]
  exact h

theorem HiddenRegsZero.congr {s t : State} (h : HiddenRegsZero s) (hr : t.regs = s.regs) : HiddenRegsZero t := by
  unfold HiddenRegsZero
  rw [State.reg_congr s t hr, State.reg_congr s t hr, State.reg_congr s t hr]
  exact h

/-- R43's shape of a receiver state at a level of the line. -/
def RxShape (level : Bool) (r : RxState) : Prop :=
  ∀ pos shift, r = .rx pos shift →
    (pos = 0 → level = false ∧ shift = 0) ∧
    (1 ≤ pos → pos ≤ 9 ∧ ∀ i, pos - 1 ≤ i → i ≤ 7 → shift.getLsbD i = false)

theorem receiverShape_iff (s : State) : ReceiverShape s ↔ RxShape s.lineLevel s.rx := Iff.rfl

theorem ReceiverShape.congr {s t : State} (h : ReceiverShape s) (hl : t.lineLevel = s.lineLevel) (hr : t.rx = s.rx) :
    ReceiverShape t := by
  rw [receiverShape_iff, hl, hr]
  exact h

theorem rxShape_idle (level : Bool) : RxShape level .idle := fun _ _ h => nomatch h

theorem rxShape_start : RxShape false (.rx 0 0#8) := by
  intro pos shift h
  cases h
  exact ⟨fun _ => ⟨rfl, rfl⟩, fun h => absurd h (by decide)⟩

theorem rxShape_inside {level : Bool} {pos : Nat} {shift : Byte} (h1 : 1 ≤ pos) (h9 : pos ≤ 9)
    (hbits : ∀ i, pos - 1 ≤ i → i ≤ 7 → shift.getLsbD i = false) : RxShape level (.rx pos shift) := by
  intro pos' shift' h
  cases h
  exact ⟨fun h0 => absurd h1 (by omega), fun _ => ⟨h9, hbits⟩⟩

/-- The data bits from the position on are still 0 (R43), at position 0 as well. -/
theorem RxShape.upper_bits {level : Bool} {pos : Nat} {shift : Byte} (h : RxShape level (.rx pos shift)) {i : Nat}
    (hi : pos - 1 ≤ i) (h7 : i ≤ 7) : shift.getLsbD i = false := by
  obtain ⟨hzero, hpos⟩ := h pos shift rfl
  by_cases h0 : pos = 0
  · rw [(hzero h0).2]; simp
  · exact (hpos (Nat.pos_of_ne_zero h0)).2 i hi h7

/-! ## The receiver's edges keep its shape -/

/-- A rising edge moves the position within 1 to 9 and writes no data bit (42_keyboard_line.md R115, R116, R118). -/
theorem riseEdge_shape {level : Bool} {r : RxState} (cfg : Config) (e : Nat) (h : RxShape level r) :
    RxShape true (riseEdge cfg e r) := by
  cases r with
  | idle => exact rxShape_idle _
  | rx pos shift =>
    simp only [riseEdge]
    split
    · exact rxShape_idle _
    · next k hk =>
      obtain ⟨hk1, -, -⟩ := classify_spec cfg e k hk
      split
      · exact rxShape_idle _
      · exact rxShape_inside (by omega) (by omega) fun i hi h7 => h.upper_bits (by omega) h7

/-- A falling edge begins a frame, gives the frame up, or moves the position within 1 to 9 and writes data bits below it only
(R114, R117, R118). -/
theorem fallEdge_shape {level : Bool} {r : RxState} (cfg : Config) (e : Nat) (h : RxShape level r) :
    RxShape false (fallEdge cfg e r).1 := by
  cases r with
  | idle => exact rxShape_start
  | rx pos shift =>
    simp only [fallEdge]
    split_ifs with h0 hstop
    · exact rxShape_start
    · exact rxShape_start
    split
    · exact rxShape_idle _
    · next k hk =>
      obtain ⟨hk1, -, -⟩ := classify_spec cfg e k hk
      have h9 := classify_before_stop cfg pos k e (Bool.eq_false_of_not_eq_true hstop) hk
      refine rxShape_inside (by omega) h9 fun i hi h7 => ?_
      have hones : ¬ i ≤ pos + k - 2 := by omega
      simp [ones_getLsbD, h.upper_bits (i := i) (by omega) h7, hones]

theorem decodePulse_shape {level : Bool} {r : RxState} (cfg : Config) (e : Nat) (h : RxShape level r) :
    RxShape (!level) (decodePulse cfg level e r).1 := by
  cases level with
  | false => exact riseEdge_shape cfg e h
  | true => exact fallEdge_shape cfg e h

/-! ## Power-on -/

theorem powerOn_pens (cfg : Config) (bits : BitDepth) : PenTable (State.powerOn cfg bits) :=
  (penTable_iff _).mpr rfl

theorem reg_of_regs_eq_zero {s : State} (h : s.regs = Vector.replicate 16 0x00#8) (a : Addr4) : s.reg a = 0 := by
  simp [State.reg, h]

theorem powerOn_inv {cfg : Config} (bits : BitDepth) (hv : cfg.Valid) : Inv (State.powerOn cfg bits) where
  pens := powerOn_pens cfg bits
  queue := ⟨fun h => absurd rfl h, Nat.zero_le _⟩
  receiver := rxShape_idle _
  hidden := ⟨reg_of_regs_eq_zero rfl 0, reg_of_regs_eq_zero rfl 1, reg_of_regs_eq_zero rfl 3⟩
  pristine := fun _ => rfl
  past := Nat.le_refl _
  configured := hv

/-- Settles O55: `State.reset` is the power-on state of a valid configuration. -/
theorem powerOnHasTheInvariant : Obligations.PowerOnHasTheInvariant :=
  ⟨fun _ bits hv => powerOn_inv bits hv, powerOn_inv Config.givenDepth Config.given_valid⟩

/-- Settles O47: field by field; the color table by `powerOn_pens`. -/
theorem powerOnStateHoldsTheValuesOfTheTable : Obligations.PowerOnStateHoldsTheValuesOfTheTable := by
  refine ⟨?_, Config.given, Config.givenDepth, rfl, Config.given_valid, BitDepth.ofNat?_toNat _⟩
  rintro cfg bits s rfl
  have hrows : ∀ r, (State.powerOn cfg bits).rowScan r = 0 := fun r => by simp [State.rowScan, State.powerOn]
  exact ⟨reg_of_regs_eq_zero rfl, rfl, rfl, rfl, rfl, rfl, rfl, powerOn_pens cfg bits, rfl, rfl, rfl, hrows, rfl, rfl, rfl,
    rfl, rfl, rfl, rfl⟩

/-! ## Every operation keeps each part -/

theorem commit_pens {s : State} (h : PenTable s) : PenTable s.commit := by
  intro e
  have hd : s.commit.dacBits = s.dacBits := rfl
  rw [State.color_commit, State.penOf, State.palByte_commit, State.palByte_commit, State.palByte_commit, hd]
  by_cases he : e = s.writeIndex
  · simp [he]
  · simp only [if_neg he]
    exact h e

theorem writeData_pens {s : State} (d : Byte) (h : PenTable s) : PenTable (s.writeData d) := by
  by_cases hp : s.writePhase = 2
  · rw [State.writeData_of_third hp]
    exact commit_pens (h.congr rfl rfl rfl)
  · rw [State.writeData_of_partial hp]
    exact h.congr rfl rfl rfl

/-- Only a commit and SET_BITS touch the pens or what they are computed from (10_state.md R30 to R33). -/
theorem exec_pens {i : Instr} {s t : State} (h : exec i s = .next t) (hs : PenTable s) : PenTable t := by
  cases i with
  | wrPdata d => cases h; exact writeData_pens d hs
  | setBits bits =>
    obtain ⟨-, rfl⟩ := exec_setBits_next h
    exact (penTable_iff _).mpr rfl
  | _ =>
    obtain ⟨hexposed, hpal, hdac⟩ := (exec_onlyWritersWrite h).palette_eq rfl (by simp [Instr.kind])
    exact hs.congr hexposed hpal hdac

theorem scanRow_queue {s : State} (r : Row) (sample : Byte) (hs : QueueDiscipline s) :
    QueueDiscipline (s.scanRow r sample) := by
  obtain ⟨-, hscan⟩ | ⟨c, -, hscan⟩ := s.scanRow_cases r sample
  · rw [hscan]; exact hs
  rw [hscan]
  obtain ⟨-, h⟩ | ⟨hf, hroom, h⟩ | ⟨-, -, h⟩ :=
    (s.setScanPosition r).reportChange_cases r c (sample.getLsbD c.toNat)
  · rw [h]; exact ⟨fun _ => rfl, hs.2⟩
  · rw [h]; exact ⟨fun _ => hf, by simpa using hroom⟩
  · rw [h]; exact hs

theorem framerDone_queue {s : State} (hs : QueueDiscipline s) : QueueDiscipline s.framerDone := by
  obtain ⟨-, h⟩ | ⟨-, hq, h⟩ | ⟨b, rest, hf, hq, h⟩ := s.framerDone_cases
  · rw [h]; exact hs
  · rw [h]; exact ⟨fun hne => absurd hq hne, hs.2⟩
  · have hlen : (b :: rest).length ≤ s.config.txqDepth := hq ▸ hs.2
    rw [h]; exact ⟨fun _ => hf, Nat.le_of_succ_le hlen⟩

/-- A byte is queued behind an outstanding one and where there is room, and the last acknowledgement finds the queue empty
(10_state.md R39). -/
theorem exec_queue {i : Instr} {s t : State} (h : exec i s = .next t) (hs : QueueDiscipline s) : QueueDiscipline t := by
  cases i with
  | scanTick r sample => cases h; exact scanRow_queue r sample hs
  | framerSent => cases h; exact framerDone_queue hs
  | reset => cases h; exact ⟨fun hne => absurd rfl hne, Nat.zero_le _⟩
  | _ =>
    have w := exec_onlyWritersWrite h
    obtain ⟨hflight, hqueue⟩ := w.tx_eq (by simp [Instr.kind]) nofun nofun
    exact hs.congr hflight hqueue w.carried.1

theorem changeLine_receiver {s : State} (l : Bool) (hs : ReceiverShape s) : ReceiverShape (s.changeLine l) := by
  obtain ⟨-, h⟩ | ⟨rfl, -⟩ := s.changeLine_cases l
  · rw [h]; exact hs
  · obtain ⟨o, ho⟩ := s.changeLine_transition
    rw [ho]
    exact decodePulse_shape s.config _ hs

theorem expireTimer_receiver {s : State} (hs : ReceiverShape s) : ReceiverShape s.expireTimer := by
  obtain ⟨-, h⟩ | ⟨b, -, h⟩ := s.expireTimer_cases
  · rw [h]; exact hs
  · rw [h]; exact rxShape_idle _

theorem exec_receiver {i : Instr} {s t : State} (h : exec i s = .next t) (hs : ReceiverShape s) : ReceiverShape t := by
  cases i with
  | lineChange l => cases h; exact changeLine_receiver l hs
  | frameTimer => cases h; exact expireTimer_receiver hs
  | reset => cases h; exact rxShape_idle _
  | _ =>
    have w := exec_onlyWritersWrite h
    obtain ⟨hlevel, -⟩ := w.line_eq (by simp [Instr.kind]) nofun
    exact hs.congr hlevel (w.rx_eq (by simp [Instr.kind]) nofun nofun)

/-- The rows of WR_REG above address 2 reach none of the three hidden cells (30_encoding.md R71). -/
theorem not_hidden_of_row :
    ∀ a : Addr4, Addr4.in4to7 a = true ∨ Addr4.in8to15 a = true → a ≠ 0 ∧ a ≠ 1 ∧ a ≠ 3 := by
  decide

theorem setReg_hidden {s : State} {a : Addr4} (v : Byte) (ha : a ≠ 0 ∧ a ≠ 1 ∧ a ≠ 3) (hs : HiddenRegsZero s) :
    HiddenRegsZero (s.setReg a v) := by
  obtain ⟨h0, h1, h3⟩ := ha
  unfold HiddenRegsZero
  simp only [State.reg_setReg, if_neg h0.symm, if_neg h1.symm, if_neg h3.symm]
  exact hs

/-- No well-formed operation writes a register no bus address reaches (10_state.md R24). -/
theorem exec_hidden {i : Instr} {s t : State} (hwf : i.WellFormed) (h : exec i s = .next t) (hs : HiddenRegsZero s) :
    HiddenRegsZero t := by
  cases i with
  | wrReg2 d => cases h; exact setReg_hidden d (by decide) hs
  | wrReg4to7 a d => cases h; exact setReg_hidden d (not_hidden_of_row a (.inl hwf)) hs
  | wrReg8to15 a d => cases h; exact setReg_hidden d (not_hidden_of_row a (.inr hwf)) hs
  | reset => cases h; exact ⟨reg_of_regs_eq_zero rfl 0, reg_of_regs_eq_zero rfl 1, reg_of_regs_eq_zero rfl 3⟩
  | _ => exact hs.congr ((exec_onlyWritersWrite h).regs_eq (by simp [Instr.kind, Instr.isGeneralRegister]) nofun)

/-- A transition is recorded at the operation's own time (42_keyboard_line.md R112). -/
theorem exec_past {i : Instr} {s t : State} (h : exec i s = .next t) (hs : TransitionInPast s) : TransitionInPast t := by
  cases i with
  | lineChange l =>
    cases h
    obtain ⟨-, h⟩ | ⟨rfl, -⟩ := s.changeLine_cases l
    · rw [h]; exact hs
    · obtain ⟨o, ho⟩ := s.changeLine_transition
      rw [ho]
      exact Nat.le_refl _
  | reset => cases h; exact Nat.le_refl _
  | _ =>
    have w := exec_onlyWritersWrite h
    obtain ⟨-, -, htime, -⟩ := w.carried
    obtain ⟨-, hchange⟩ := w.line_eq (by simp [Instr.kind]) nofun
    unfold TransitionInPast
    rw [hchange, htime]
    exact hs

/-- The one operation that may run while the block is not active is SET_BITS, and it sets only what a power-on state leaves
free (10_state.md R34; 40_palette.md R98). -/
theorem exec_pristine {i : Instr} {s t : State} (hactive : i.kind ≠ .setBits → s.active = true) (h : exec i s = .next t)
    (hs : PristineUntilActive s) : PristineUntilActive t := by
  intro hidle
  cases i with
  | setBits bits =>
    obtain ⟨ha, rfl⟩ := exec_setBits_next h
    exact congrArg (State.setDepth · bits) (hs ha)
  | _ =>
    obtain ⟨-, hkeep, -⟩ := (exec_onlyWritersWrite h).carried
    have htrue := hkeep.trans (hactive (by simp [Instr.kind]))
    exact absurd (hidle.symm.trans htrue) Bool.false_ne_true

/-! ## Every step keeps the invariant -/

theorem activeAfter_of_ne_setBits {k : Kind} (active : Bool) (h : k ≠ .setBits) : activeAfter active k = true := by
  simp [activeAfter, h]

/-- Taking a stimulus off the queue, or delivering more, touches no part of the invariant (log 2). -/
theorem Inv.with_pending {s : State} (h : Inv s) (l : List Stimulus) : Inv { s with pending := l } where
  pens := h.pens
  queue := h.queue
  receiver := h.receiver
  hidden := h.hidden
  pristine := fun ha => congrArg (fun u : State => { u with pending := l }) (h.pristine ha)
  past := h.past
  configured := h.configured

/-- The prologue of a stimulus in order keeps the invariant: a kind that is not SET_BITS ends the pristine time (R18). -/
theorem Inv.prologue {s : State} (h : Inv s) (k : Kind) {now : Nat} (hnow : s.lastTime ≤ now) : Inv (s.prologue k now) where
  pens := h.pens
  queue := h.queue
  receiver := h.receiver
  hidden := h.hidden
  pristine := by
    intro ha
    by_cases hk : k = .setBits
    · subst hk
      have hidle : s.active = false := by simpa using ha
      exact congrArg (State.prologue · .setBits now) (h.pristine hidle)
    · exact absurd ((activeAfter_of_ne_setBits _ hk).symm.trans ha) (by decide)
  past := Nat.le_trans h.past hnow
  configured := h.configured

theorem Inv.of_exec {i : Instr} {s t : State} (h : Inv s) (hwf : i.WellFormed)
    (hactive : i.kind ≠ .setBits → s.active = true) (hexec : exec i s = .next t) : Inv t where
  pens := exec_pens hexec h.pens
  queue := exec_queue hexec h.queue
  receiver := exec_receiver hexec h.receiver
  hidden := exec_hidden hwf hexec h.hidden
  pristine := exec_pristine hactive hexec h.pristine
  past := exec_past hexec h.past
  configured := by rw [(exec_onlyWritersWrite hexec).carried.1]; exact h.configured

/-- Settles O54: taking the stimulus, the prologue and the operation each keep the invariant. -/
theorem stepKeepsTheInvariant : Obligations.StepKeepsTheInvariant := by
  intro s t h hstep
  obtain rfl | ⟨i, now, rest, hwf, hnow, hexec⟩ := step_next_cases hstep
  · exact h
  · exact ((h.with_pending rest).prologue i.kind hnow).of_exec hwf (activeAfter_of_ne_setBits _) hexec

/-! ## Every reachable state has the invariant -/

theorem Reachable.inv {s : State} (h : Reachable s) : Inv s := by
  induction h with
  | powerOn cfg bits hv hb => exact powerOn_inv bits hv
  | deliver s l _ ih => exact ih.with_pending (s.pending ++ l)
  | step s t _ hstep ih => exact stepKeepsTheInvariant s t ih hstep

/-- Settles O56. -/
theorem reachableColorTableHoldsThePens : Obligations.ReachableColorTableHoldsThePens := fun _ h => h.inv.pens

/-- Settles O57. -/
theorem reachableReceiverHasItsShape : Obligations.ReachableReceiverHasItsShape := fun _ h => h.inv.receiver

/-- Settles O58. -/
theorem reachableQueueWaitsOnlyBehindAnOutstandingByte : Obligations.ReachableQueueWaitsOnlyBehindAnOutstandingByte :=
  fun _ h => ⟨h.inv.queue.1, h.inv.queue.2, h.inv.hidden⟩

/-! ## The save-state -/

/-- Settles O59: a restored color table is the one palette memory and depth determine, so saving loses nothing of a state whose
table holds the pens. -/
theorem saveStateRoundTrips : Obligations.SaveStateRoundTrips := by
  refine ⟨fun _ _ => rfl, fun s h => ?_, fun s v => ⟨(penTable_iff _).mpr rfl, rfl, rfl, rfl, rfl, rfl⟩⟩
  have hpens : pensOf s.pal s.dacBits = s.exposed := ((penTable_iff s).mp h).symm
  simp only [State.restore, State.save, hpens]

end Machine

end Sys2Proof
end

section
/-! Which parts of the state the operations are blind to: the other controller's (10_state.md R20; O48), and the values of the
general registers (R23; O50). -/

namespace Sys2Proof.Machine

/-! ## The palette's composite operations: they branch on a phase, which no replacement below touches -/

/-- A state with other values in its general registers (10_state.md R23). -/
def State.withRegs (s : State) (g : Vector Byte 16) : State := { s with regs := g }

theorem State.writeData_withKeyboardOf (s k : State) (d : Byte) :
    (s.withKeyboardOf k).writeData d = (s.writeData d).withKeyboardOf k := by
  have hphase : (s.withKeyboardOf k).writePhase = s.writePhase := rfl
  simp only [State.writeData, hphase]
  split <;> rfl

theorem State.writeData_withRegs (s : State) (g : Vector Byte 16) (d : Byte) :
    (s.withRegs g).writeData d = (s.writeData d).withRegs g := by
  have hphase : (s.withRegs g).writePhase = s.writePhase := rfl
  simp only [State.writeData, hphase]
  split <;> rfl

/-- SET_BITS stops or not by `active` alone, so it commutes with what keeps `active` and commutes with setting the depth. -/
theorem exec_setBits_comm {f : State → State} {bits : BitDepth} {s : State} (hactive : (f s).active = s.active)
    (hdepth : (f s).setDepth bits = f (s.setDepth bits)) :
    exec (.setBits bits) (f s) = mapNext f (exec (.setBits bits) s) := by
  simp only [exec, execSetBits, hactive, hdepth]
  split <;> rfl

/-- The palette controller's operations are blind to the keyboard controller's state (R20). -/
theorem exec_withKeyboardOf {i : Instr} (hi : i.isPalette = true) (s k : State) :
    exec i (s.withKeyboardOf k) = mapNext (fun t => t.withKeyboardOf k) (exec i s) := by
  cases i with
  | rdWaddr | rdReg2 | rdRaddr | rdReg4to7 | rdReg8to15 => rfl
  | wrWaddr | wrReg2 | wrRaddr | wrReg4to7 | wrReg8to15 => rfl
  | rdPdata =>
    refine congrArg Host.Outcome.next ?_
    rw [State.readData_eq, State.readData_eq]
    rfl
  | wrPdata d => exact congrArg Host.Outcome.next (s.writeData_withKeyboardOf k d)
  | setBits bits => exact exec_setBits_comm (f := (State.withKeyboardOf · k)) rfl rfl
  | scanTick | lineChange | framerSent | frameTimer | reset => cases hi

/-! ## The keyboard's composite operations: they branch on keyboard state, the configuration and the time -/

theorem State.reportChange_withPaletteOf (s p : State) (r : Row) (c : Column) (pressed : Bool) :
    (s.withPaletteOf p).reportChange r c pressed = (s.reportChange r c pressed).withPaletteOf p := by
  have hroute : txRoute (s.withPaletteOf p).txInFlight (s.withPaletteOf p).txQueue.length
      (s.withPaletteOf p).config.txqDepth = txRoute s.txInFlight s.txQueue.length s.config.txqDepth := rfl
  simp only [State.reportChange, hroute]
  split <;> rfl

theorem State.scanRow_withPaletteOf (s p : State) (r : Row) (sample : Byte) :
    (s.withPaletteOf p).scanRow r sample = (s.scanRow r sample).withPaletteOf p := by
  have hrow : (s.withPaletteOf p).rowScan r = s.rowScan r := rfl
  simp only [State.scanRow, hrow]
  split
  · rfl
  · exact (s.setScanPosition r).reportChange_withPaletteOf p r _ _

theorem State.framerDone_withPaletteOf (s p : State) :
    (s.withPaletteOf p).framerDone = s.framerDone.withPaletteOf p := by
  have hflight : (s.withPaletteOf p).txInFlight = s.txInFlight := rfl
  have hqueue : (s.withPaletteOf p).txQueue = s.txQueue := rfl
  simp only [State.framerDone, hflight, hqueue]
  split
  · rfl
  · split <;> rfl

theorem State.deliver_withPaletteOf (s p : State) (b : Option Byte) :
    (s.withPaletteOf p).deliver b = (s.deliver b).withPaletteOf p := by
  cases b with
  | none => rfl
  | some b =>
    have hclick : (s.withPaletteOf p).config.clickCmd = s.config.clickCmd := rfl
    simp only [State.deliver, hclick]
    split <;> rfl

theorem State.changeLine_withPaletteOf (s p : State) (l : Bool) :
    (s.withPaletteOf p).changeLine l = (s.changeLine l).withPaletteOf p := by
  have hlevel : (s.withPaletteOf p).lineLevel = s.lineLevel := rfl
  by_cases h : l = s.lineLevel
  · simp only [State.changeLine, hlevel, if_pos h]
  · simp only [State.changeLine, hlevel, if_neg h]
    exact congrArg (State.setLine · l) (State.deliver_withPaletteOf (s.setRx _) p _)

theorem State.expireTimer_withPaletteOf (s p : State) :
    (s.withPaletteOf p).expireTimer = s.expireTimer.withPaletteOf p := by
  have htimer : timerByte (s.withPaletteOf p).config (s.withPaletteOf p).lineLevel (s.withPaletteOf p).lastChange
      (s.withPaletteOf p).lastTime (s.withPaletteOf p).rx =
        timerByte s.config s.lineLevel s.lastChange s.lastTime s.rx := rfl
  simp only [State.expireTimer, htimer]
  split
  · rfl
  · rw [State.deliver_withPaletteOf]
    rfl

/-- The keyboard controller's operations are blind to the palette controller's state (R20). -/
theorem exec_withPaletteOf {i : Instr} (hi : i.isKeyboard = true) (s p : State) :
    exec i (s.withPaletteOf p) = mapNext (fun t => t.withPaletteOf p) (exec i s) := by
  cases i with
  | scanTick r sample => exact congrArg Host.Outcome.next (s.scanRow_withPaletteOf p r sample)
  | lineChange l => exact congrArg Host.Outcome.next (s.changeLine_withPaletteOf p l)
  | framerSent => exact congrArg Host.Outcome.next (s.framerDone_withPaletteOf p)
  | frameTimer => exact congrArg Host.Outcome.next (s.expireTimer_withPaletteOf p)
  | _ => cases hi

/-- Settles O48. -/
theorem paletteAndKeyboardShareNoState : Obligations.PaletteAndKeyboardShareNoState :=
  ⟨fun _ s k hi => exec_withKeyboardOf hi s k, fun _ s p hi => exec_withPaletteOf hi s p⟩

/-! ## The general registers -/

theorem mapNext_mapNext (f g : State → State) (o : Host.Outcome State Fault Refusal) :
    mapNext f (mapNext g o) = mapNext (fun s => f (g s)) o := by
  cases o <;> rfl

/-- The registers are palette state: a keyboard operation answers with the palette it was given, and so with its registers. -/
theorem exec_withRegs_of_isKeyboard {i : Instr} (hi : i.isKeyboard = true) (s : State) (g : Vector Byte 16) :
    exec i (s.withRegs g) = mapNext (State.withRegs · g) (exec i s) := by
  have hframe : exec i s = mapNext (State.withPaletteOf · s) (exec i s) := exec_withPaletteOf hi s s
  calc exec i (s.withRegs g)
      = mapNext (State.withPaletteOf · (s.withRegs g)) (exec i s) := exec_withPaletteOf hi s (s.withRegs g)
    _ = mapNext (State.withRegs · g) (mapNext (State.withPaletteOf · s) (exec i s)) := by
        conv_lhs => rw [hframe]
        rw [mapNext_mapNext, mapNext_mapNext]
        rfl
    _ = mapNext (State.withRegs · g) (exec i s) := by rw [← hframe]

/-- Settles O50: the palette operations left are checked one by one, the keyboard's follow from O48. -/
theorem registerValuesAffectNothingElse : Obligations.RegisterValuesAffectNothingElse := by
  intro i s g hreg hreset
  cases i with
  | rdWaddr | rdRaddr | wrWaddr | wrRaddr => rfl
  | rdPdata =>
    refine congrArg Host.Outcome.next ?_
    rw [State.readData_eq, State.readData_eq]
    rfl
  | wrPdata d => exact congrArg Host.Outcome.next (s.writeData_withRegs g d)
  | setBits bits => exact exec_setBits_comm (f := (State.withRegs · g)) rfl rfl
  | scanTick | lineChange | framerSent | frameTimer => exact exec_withRegs_of_isKeyboard rfl s g
  | rdReg2 | rdReg4to7 | rdReg8to15 | wrReg2 | wrReg4to7 | wrReg8to15 => cases hreg
  | reset => exact absurd rfl hreset

end Sys2Proof.Machine
end

section
/-! The bus (20_memory.md): the operation each address selects (O6), and writes that repeated change nothing more (O23). -/

namespace Sys2Proof

/-- A word written as a number, from the layout of 30_encoding.md R65 to R68. -/
theorem ofNat_eq_wordOf (k : Kind) (h : BitVec 4) (l : Byte) :
    BitVec.ofNat 16 (k.bits.toNat * 8192 + h.toNat * 256 + l.toNat) = wordOf k h l := by
  rw [← wordOf_toNat, BitVec.ofNat_toNat, BitVec.setWidth_eq]

theorem ofNat_eq_busReadWord (a : Addr4) : BitVec.ofNat 16 (a.toNat * 256) = wordOf .busRead a 0#8 := by
  rw [← ofNat_eq_wordOf]
  simp [Kind.bits]

theorem ofNat_eq_busWriteWord (a : Addr4) (d : Byte) :
    BitVec.ofNat 16 (0x2000 + a.toNat * 256 + d.toNat) = wordOf .busWrite a d :=
  ofNat_eq_wordOf .busWrite a d

/-- A bus read's reserved fields are bit 12 and the data byte (R66, R67). -/
theorem decode_busReadWord (a : Addr4) : decode (wordOf .busRead a 0#8) = .ok (busReadOf a) := by
  simp [decode]

/-- A bus write's only reserved field is bit 12 (R66, R67). -/
theorem decode_busWriteWord (a : Addr4) (d : Byte) : decode (wordOf .busWrite a d) = .ok (busWriteOf a d) := by
  simp [decode]

/-- Above the four addresses with rows of their own, the row 01xx is the addresses below 8 (R71). -/
theorem Addr4.in4to7_iff_lt :
    ∀ a : Addr4, a ≠ 0 → a ≠ 1 → a ≠ 2 → a ≠ 3 → (Addr4.in4to7 a = true ↔ a.toNat < 8) := by
  decide

/-- A choice by the register map of R71 may test the row 01xx as `a.toNat < 8`: the lower addresses are taken before it. -/
theorem Addr4.mapChoice_eq {α : Type} (a : Addr4) (x₀ x₁ x₂ x₃ x₄ x₈ : α) :
    (if a = 0 then x₀ else if a = 1 then x₁ else if a = 2 then x₂ else if a = 3 then x₃
      else if Addr4.in4to7 a then x₄ else x₈) =
      if a = 0 then x₀ else if a = 1 then x₁ else if a = 2 then x₂ else if a = 3 then x₃
      else if a.toNat < 8 then x₄ else x₈ := by
  refine ite_congr rfl (fun _ => rfl) fun h0 => ite_congr rfl (fun _ => rfl) fun h1 =>
    ite_congr rfl (fun _ => rfl) fun h2 => ite_congr rfl (fun _ => rfl) fun h3 => ?_
  simp only [Addr4.in4to7_iff_lt a h0 h1 h2 h3]

namespace Machine

/-- Masking with 0xF is the remainder modulo 16 (20_memory.md R50). -/
theorem maskAddr_toNat (addr : Nat) : (maskAddr addr).toNat = addr % 16 := by
  have hmask : addr &&& 0xF = addr % 16 := Nat.and_two_pow_sub_one_eq_mod addr 4
  simp [maskAddr, hmask]

/-- Settles O6: the numbers are the words of the two bus kinds, and the decoder sends those to the register map. -/
theorem busAddressSelectsExactlyOneOperation : Obligations.BusAddressSelectsExactlyOneOperation := by
  refine ⟨maskAddr_toNat, fun a d => ⟨?_, ?_⟩⟩
  · rw [ofNat_eq_busReadWord, decode_busReadWord]
    exact congrArg Except.ok (a.mapChoice_eq _ _ _ _ _ _)
  · rw [ofNat_eq_busWriteWord, decode_busWriteWord]
    exact congrArg Except.ok (a.mapChoice_eq _ _ _ _ _ _)

/-! ## Writing what is already there -/

theorem State.setReg_of_reg_eq {s : State} {a : Addr4} {v : Byte} (h : s.reg a = v) : s.setReg a v = s := by
  have hset : s.regs.set a.toNat v a.isLt = s.regs := by
    rw [← h]
    exact Vector.set_getElem_self a.isLt
  rw [State.setReg, hset]

theorem State.setWriteCursor_of_eq {s : State} {e : Byte} {k : Channel} (he : s.writeIndex = e) (hk : s.writePhase = k) :
    s.setWriteCursor e k = s := by
  rw [← he, ← hk]
  rfl

theorem State.setReadCursor_of_eq {s : State} {e : Byte} {k : Channel} (he : s.readIndex = e) (hk : s.readPhase = k) :
    s.setReadCursor e k = s := by
  rw [← he, ← hk]
  rfl

/-- A register just written still holds its byte when the time has moved on. -/
theorem State.setReg_again (s : State) (a : Addr4) (v : Byte) (now : Nat) :
    ({ s.setReg a v with lastTime := now } : State).setReg a v = { s.setReg a v with lastTime := now } := by
  have hheld : (s.setReg a v).reg a = v := by rw [State.reg_setReg, if_pos rfl]
  exact State.setReg_of_reg_eq hheld

/-- Settles O23: the first write left the register or the cursor at what the second one writes. -/
theorem repeatedIdempotentWriteChangesNothingMore : Obligations.RepeatedIdempotentWriteChangesNothingMore := by
  intro i s t hkind hdata h now
  cases i with
  | wrWaddr d => cases h; exact congrArg Host.Outcome.next (State.setWriteCursor_of_eq rfl rfl)
  | wrRaddr d => cases h; exact congrArg Host.Outcome.next (State.setReadCursor_of_eq rfl rfl)
  | wrReg2 d => cases h; exact congrArg Host.Outcome.next (s.setReg_again 2 d now)
  | wrReg4to7 a d | wrReg8to15 a d => cases h; exact congrArg Host.Outcome.next (s.setReg_again a d now)
  | wrPdata d => cases hdata
  | rdWaddr | rdPdata | rdReg2 | rdRaddr | rdReg4to7 | rdReg8to15 => cases hkind
  | scanTick | lineChange | framerSent | frameTimer | reset | setBits => cases hkind

end Machine

end Sys2Proof
end

section
/-! The opcode map (30_encoding.md): decode and encode are inverse to each other (O1, O2), and the table of matches and masks
agrees with the decoder row by row (O3, O4); words of the decode table (O5); the fields of the scan byte (O28). -/

namespace Sys2Proof

/-! ## The layouts -/

/-- The layouts of R67 to R69, one per kind: the words whose reserved fields are zero, each with the operation it names. -/
inductive WordLayout : Word → Instr → Prop where
  | busRead (a : Addr4) : WordLayout (wordOf .busRead a 0#8) (busReadOf a)
  | busWrite (a : Addr4) (d : Byte) : WordLayout (wordOf .busWrite a d) (busWriteOf a d)
  | scanTick (r : Row) (s : Byte) : WordLayout (wordOf .scanTick r s) (.scanTick r s)
  | lineChange (l : Bool) : WordLayout (wordOf .lineChange 0#4 (bit0Byte l)) (.lineChange l)
  | framerSent : WordLayout (wordOf .framerSent 0#4 0#8) .framerSent
  | frameTimer : WordLayout (wordOf .frameTimer 0#4 0#8) .frameTimer
  | reset : WordLayout (wordOf .reset 0#4 0#8) .reset
  | setBits (l : Bool) : WordLayout (wordOf .setBits 0#4 (bit0Byte l)) (.setBits (BitDepth.ofBit l))

theorem WordLayout.decode_eq {w : Word} {i : Instr} (h : WordLayout w i) : decode w = .ok i := by
  cases h with
  | busRead a => exact decode_busReadWord a
  | busWrite a d => exact decode_busWriteWord a d
  | scanTick r s => simp [decode]
  | lineChange l | setBits l => cases l <;> rfl
  | framerSent | frameTimer | reset => rfl

/-! ## Every operation's word has its kind's layout -/

theorem busReadOf_of_in4to7 : ∀ a : Addr4, Addr4.in4to7 a = true → busReadOf a = .rdReg4to7 a := by decide

theorem busReadOf_of_in8to15 : ∀ a : Addr4, Addr4.in8to15 a = true → busReadOf a = .rdReg8to15 a := by decide

/-- The general registers of the rows 01xx and 1xxx have none of the four lower addresses (R71). -/
theorem Addr4.not_lower_of_row : ∀ a : Addr4, Addr4.in4to7 a = true ∨ Addr4.in8to15 a = true →
    a ≠ 0x0#4 ∧ a ≠ 0x1#4 ∧ a ≠ 0x2#4 ∧ a ≠ 0x3#4 := by
  decide

theorem Addr4.not_in4to7_of_in8to15 : ∀ a : Addr4, Addr4.in8to15 a = true → Addr4.in4to7 a = false := by decide

theorem busWriteOf_of_in4to7 {a : Addr4} (h : Addr4.in4to7 a = true) (d : Byte) : busWriteOf a d = .wrReg4to7 a d := by
  obtain ⟨h0, h1, h2, h3⟩ := Addr4.not_lower_of_row a (.inl h)
  simp only [busWriteOf, h0, h1, h2, h3, h, if_false, if_true]

theorem busWriteOf_of_in8to15 {a : Addr4} (h : Addr4.in8to15 a = true) (d : Byte) : busWriteOf a d = .wrReg8to15 a d := by
  obtain ⟨h0, h1, h2, h3⟩ := Addr4.not_lower_of_row a (.inr h)
  simp [busWriteOf, h0, h1, h2, h3, Addr4.not_in4to7_of_in8to15 a h]

theorem wordLayout_encode {i : Instr} (h : i.WellFormed) : WordLayout (encode i) i := by
  cases i with
  | rdWaddr => exact .busRead 0x0
  | rdPdata => exact .busRead 0x1
  | rdReg2 => exact .busRead 0x2
  | rdRaddr => exact .busRead 0x3
  | rdReg4to7 a => have hl := WordLayout.busRead a; rwa [busReadOf_of_in4to7 a h] at hl
  | rdReg8to15 a => have hl := WordLayout.busRead a; rwa [busReadOf_of_in8to15 a h] at hl
  | wrWaddr d => exact .busWrite 0x0 d
  | wrPdata d => exact .busWrite 0x1 d
  | wrReg2 d => exact .busWrite 0x2 d
  | wrRaddr d => exact .busWrite 0x3 d
  | wrReg4to7 a d => have hl := WordLayout.busWrite a d; rwa [busWriteOf_of_in4to7 h] at hl
  | wrReg8to15 a d => have hl := WordLayout.busWrite a d; rwa [busWriteOf_of_in8to15 h] at hl
  | scanTick r s => exact .scanTick r s
  | lineChange l => exact .lineChange l
  | framerSent => exact .framerSent
  | frameTimer => exact .frameTimer
  | reset => exact .reset
  | setBits bits => have hl := WordLayout.setBits bits.toBit; rwa [BitDepth.ofBit_toBit] at hl

theorem decode_encode {i : Instr} (h : i.WellFormed) : decode (encode i) = .ok i := (wordLayout_encode h).decode_eq

/-- Settles O1: a well-formed operation's word has its kind's layout, and the decoder reads every layout. -/
theorem encodedOperationDecodesToItself : Obligations.EncodedOperationDecodesToItself := fun _ h => decode_encode h

/-! ## Every word that decodes has its kind's layout -/

theorem getLsbD_eq_false_of_above0Field {w : Word} (h : w.above0Field = 0#11) {n : Nat} (h1 : 1 ≤ n) (h12 : n < 12) :
    w.getLsbD n = false := by
  have hbit := congrArg (fun b : BitVec 11 => b.getLsbD (n - 1)) h
  have hlt : n - 1 < 11 := by omega
  have hn : 1 + (n - 1) = n := by omega
  simpa [Word.above0Field, BitVec.getLsbD_extractLsb', hlt, hn] using hbit

theorem above0Field_of_restField {w : Word} (h : w.restField = 0#12) : w.above0Field = 0#11 := by
  apply BitVec.eq_of_getLsbD_eq
  intro n hn
  have hbit := congrArg (fun b : BitVec 12 => b.getLsbD (1 + n)) h
  have hlt : 1 + n < 12 := by omega
  simpa [Word.above0Field, Word.restField, BitVec.getLsbD_extractLsb', hn, hlt] using hbit

theorem highField_of_above0Field {w : Word} (h : w.above0Field = 0#11) : w.highField = 0#4 := by
  apply BitVec.eq_of_getLsbD_eq
  intro n hn
  simp [Word.highField, BitVec.getLsbD_extractLsb', getLsbD_eq_false_of_above0Field h (n := 8 + n) (by omega) (by omega)]

theorem getLsbD_bit0Byte (b : Bool) (n : Nat) : (bit0Byte b).getLsbD n = (decide (n = 0) && b) := by
  change (0#7 ++ BitVec.ofBool b).getLsbD n = _
  rw [BitVec.getLsbD_append]
  by_cases hn : n = 0 <;> simp [hn]

theorem lowField_of_above0Field {w : Word} (h : w.above0Field = 0#11) : w.lowField = bit0Byte (w.getLsbD 0) := by
  apply BitVec.eq_of_getLsbD_eq
  intro n hn
  rw [getLsbD_bit0Byte, Word.lowField, BitVec.getLsbD_extractLsb', Nat.zero_add]
  by_cases h0 : n = 0
  · simp [h0]
  · simp [h0, getLsbD_eq_false_of_above0Field h (n := n) (by omega) (by omega)]

theorem lowField_of_restField {w : Word} (h : w.restField = 0#12) : w.lowField = 0#8 := by
  have hbit := congrArg (fun b : BitVec 12 => b.getLsbD 0) h
  have h0 : w.getLsbD 0 = false := by simpa [Word.restField, BitVec.getLsbD_extractLsb'] using hbit
  rw [lowField_of_above0Field (above0Field_of_restField h), h0]
  rfl

/-- A word with bits 12 and 11:1 zero is its kind and its bit 0. -/
theorem wordOf_of_above0Field {w : Word} (hbit : w.reservedBit = 0#1) (h : w.above0Field = 0#11) :
    wordOf (Kind.ofBits w.kindField) 0#4 (bit0Byte (w.getLsbD 0)) = w := by
  rw [← highField_of_above0Field h, ← lowField_of_above0Field h, wordOf_fields w hbit]

/-- A word with bits 12 to 0 zero is its kind. -/
theorem wordOf_of_restField {w : Word} (hbit : w.reservedBit = 0#1) (h : w.restField = 0#12) :
    wordOf (Kind.ofBits w.kindField) 0#4 0#8 = w := by
  rw [← highField_of_above0Field (above0Field_of_restField h), ← lowField_of_restField h, wordOf_fields w hbit]

theorem exists_wordLayout_of_reservedZero {w : Word} (h : w.reservedZero = true) : ∃ i, WordLayout w i := by
  rw [Word.reservedZero, Bool.and_eq_true, decide_eq_true_eq] at h
  obtain ⟨hbit, hfield⟩ := h
  cases hk : Kind.ofBits w.kindField <;> simp only [hk, decide_eq_true_eq] at hfield
  case busRead => rw [← wordOf_fields w hbit, hk, hfield]; exact ⟨_, .busRead _⟩
  case busWrite => rw [← wordOf_fields w hbit, hk]; exact ⟨_, .busWrite _ _⟩
  case scanTick => rw [← wordOf_fields w hbit, hk]; exact ⟨_, .scanTick _ _⟩
  case lineChange => rw [← wordOf_of_above0Field hbit hfield, hk]; exact ⟨_, .lineChange _⟩
  case framerSent => rw [← wordOf_of_restField hbit hfield, hk]; exact ⟨_, .framerSent⟩
  case frameTimer => rw [← wordOf_of_restField hbit hfield, hk]; exact ⟨_, .frameTimer⟩
  case reset => rw [← wordOf_of_restField hbit hfield, hk]; exact ⟨_, .reset⟩
  case setBits => rw [← wordOf_of_above0Field hbit hfield, hk]; exact ⟨_, .setBits _⟩

theorem wordLayout_of_decode {w : Word} {i : Instr} (h : decode w = .ok i) : WordLayout w i := by
  obtain ⟨-, hd⟩ | ⟨hz, -⟩ := decode_cases w
  · cases hd.symm.trans h
  · obtain ⟨j, hj⟩ := exists_wordLayout_of_reservedZero hz
    cases hj.decode_eq.symm.trans h
    exact hj

theorem encode_busReadOf : ∀ a : Addr4, encode (busReadOf a) = wordOf .busRead a 0#8 := by decide

theorem encode_busWriteOf (a : Addr4) (d : Byte) : encode (busWriteOf a d) = wordOf .busWrite a d := by
  unfold busWriteOf
  split_ifs with h0 h1 h2 h3
  · rw [h0]; rfl
  · rw [h1]; rfl
  · rw [h2]; rfl
  · rw [h3]; rfl
  · rfl
  · rfl

theorem WordLayout.encode_eq {w : Word} {i : Instr} (h : WordLayout w i) : encode i = w := by
  cases h with
  | busRead a => exact encode_busReadOf a
  | busWrite a d => exact encode_busWriteOf a d
  | setBits l => cases l <;> rfl
  | scanTick | lineChange | framerSent | frameTimer | reset => rfl

/-- Settles O2: a word that decodes has one of the layouts, and the encoder answers the word of each. -/
theorem decodedWordIsTheEncodingOfItsOperation : Obligations.DecodedWordIsTheEncodingOfItsOperation :=
  fun _ _ h => ⟨(wordLayout_of_decode h).encode_eq, decode_wellFormed h⟩

/-! ## The opcode map against the layouts -/

theorem OpcodeRow.selects_iff (row : OpcodeRow) (w : Word) : row.selects w = true ↔ w &&& row.mask = row.pattern := by
  rw [OpcodeRow.selects, beq_iff_eq]

/-- Each row of the map owns operations no other row owns, and every operation is some row's. -/
theorem opcodeMap_owner (i : Instr) : ∃ row, opcodeMap.filter (fun r => r.owns i) = [row] ∧ row.owns i = true := by
  cases i <;> exact ⟨_, rfl, rfl⟩

/-! ## Reserved fields -/

/-- The bits of a kind's reserved fields (R66 to R69). -/
def Kind.reservedMask : Kind → Word
  | .busRead => 0x10FF#16
  | .busWrite => 0x1000#16
  | .scanTick => 0x1000#16
  | .lineChange => 0x1FFE#16
  | .framerSent => 0x1FFF#16
  | .frameTimer => 0x1FFF#16
  | .reset => 0x1FFF#16
  | .setBits => 0x1FFE#16

/-- A field within a mask is zero where the masked word is. -/
theorem extractLsb'_eq_zero_of_and_eq_zero {w m : Word} (h : w &&& m = 0#16) (start len : Nat)
    (hm : m.extractLsb' start len = BitVec.allOnes len) : w.extractLsb' start len = 0#len := by
  calc w.extractLsb' start len
      = w.extractLsb' start len &&& m.extractLsb' start len := by rw [hm, BitVec.and_allOnes]
    _ = (w &&& m).extractLsb' start len := BitVec.extractLsb'_and.symm
    _ = 0#len := by rw [h]; simp

theorem reservedZero_of_and_reservedMask {w : Word} (h : w &&& (Kind.ofBits w.kindField).reservedMask = 0#16) :
    w.reservedZero = true := by
  cases hk : Kind.ofBits w.kindField <;> rw [hk] at h <;>
    have hbit : w.reservedBit = 0#1 := extractLsb'_eq_zero_of_and_eq_zero h 12 1 (by decide)
  case busWrite | scanTick => simp [Word.reservedZero, hk, hbit]
  case busRead =>
    have hlow : w.lowField = 0#8 := extractLsb'_eq_zero_of_and_eq_zero h 0 8 (by decide)
    simp [Word.reservedZero, hk, hbit, hlow]
  case lineChange | setBits =>
    have habove : w.above0Field = 0#11 := extractLsb'_eq_zero_of_and_eq_zero h 1 11 (by decide)
    simp [Word.reservedZero, hk, hbit, habove]
  case framerSent | frameTimer | reset =>
    have hrest : w.restField = 0#12 := extractLsb'_eq_zero_of_and_eq_zero h 0 12 (by decide)
    simp [Word.reservedZero, hk, hbit, hrest]

/-- Every row requires the kind of its match and zeros in that kind's reserved fields (R77). -/
theorem opcodeMap_row_reserved : ∀ row ∈ opcodeMap, row.mask.kindField = BitVec.allOnes 3 ∧
    row.mask &&& (Kind.ofBits row.pattern.kindField).reservedMask = (Kind.ofBits row.pattern.kindField).reservedMask ∧
    row.pattern &&& (Kind.ofBits row.pattern.kindField).reservedMask = 0#16 := by
  decide

theorem kindField_of_selects {row : OpcodeRow} (hrow : row ∈ opcodeMap) {w : Word} (h : row.selects w = true) :
    w.kindField = row.pattern.kindField := by
  obtain ⟨hkind, -, -⟩ := opcodeMap_row_reserved row hrow
  calc w.kindField
      = w.kindField &&& row.mask.kindField := by rw [hkind, BitVec.and_allOnes]
    _ = (w &&& row.mask).kindField := BitVec.extractLsb'_and.symm
    _ = row.pattern.kindField := by rw [(row.selects_iff w).mp h]

theorem reservedZero_of_selects {row : OpcodeRow} (hrow : row ∈ opcodeMap) {w : Word} (h : row.selects w = true) :
    w.reservedZero = true := by
  obtain ⟨-, hmask, hpattern⟩ := opcodeMap_row_reserved row hrow
  apply reservedZero_of_and_reservedMask
  rw [kindField_of_selects hrow h, ← hmask, ← BitVec.and_assoc, (row.selects_iff w).mp h, hpattern]

/-- Settles O4: a row that selects a word forces its reserved fields to zero; the decoder and the step reject the rest. -/
theorem wordWithAReservedFieldSetMatchesNoRow : Obligations.WordWithAReservedFieldSetMatchesNoRow := by
  intro w hz
  refine ⟨List.filter_eq_nil_iff.mpr fun row hrow hsel => ?_, decode_of_reservedZero_eq_false hz,
    fun t s => Machine.applyStimulus_of_reserved_field s hz⟩
  exact Bool.false_ne_true (hz.symm.trans (reservedZero_of_selects hrow hsel))

/-! ## The rows of a layout -/

/-- The rows of the two kinds with a data byte leave it out of their masks (R77). -/
theorem opcodeMap_row_data : ∀ row ∈ opcodeMap,
    row.pattern.kindField = Kind.busWrite.bits ∨ row.pattern.kindField = Kind.scanTick.bits →
    row.mask = 0xFF00#16 &&& row.mask := by
  decide

theorem wordOf_and_upper_byte (k : Kind) (h : BitVec 4) (l : Byte) : wordOf k h l &&& 0xFF00#16 = wordOf k h 0#8 := by
  have hmask : ∀ n < 16, (0xFF00#16).getLsbD n = decide (8 ≤ n) := by decide
  apply BitVec.eq_of_getLsbD_eq
  intro n hn
  rw [BitVec.getLsbD_and, wordOf_getLsbD, wordOf_getLsbD, hmask n hn]
  by_cases h8 : n < 8 <;> simp [h8, Nat.not_le_of_lt, Nat.le_of_not_lt]

/-- No row tells apart the words of a BUS_WRITE or SCAN_TICK that differ in the data byte (R67, R68). -/
theorem selects_wordOf_data {row : OpcodeRow} (hrow : row ∈ opcodeMap) {k : Kind} (hk : k = .busWrite ∨ k = .scanTick)
    (h : BitVec 4) (l : Byte) : row.selects (wordOf k h l) = row.selects (wordOf k h 0#8) := by
  by_cases hkind : row.pattern.kindField = k.bits
  · have hmask := opcodeMap_row_data row hrow (hk.imp (fun e => by rw [hkind, e]) fun e => by rw [hkind, e])
    have hand : wordOf k h l &&& row.mask = wordOf k h 0#8 &&& row.mask := by
      rw [hmask, ← BitVec.and_assoc, ← BitVec.and_assoc, wordOf_and_upper_byte, wordOf_and_upper_byte]
    rw [OpcodeRow.selects, hand, OpcodeRow.selects]
  · have hfalse (d : Byte) : row.selects (wordOf k h d) = false := by
      refine Bool.eq_false_of_not_eq_true fun hsel => hkind ?_
      rw [← kindField_of_selects hrow hsel, wordOf_kindField]
    rw [hfalse, hfalse]

theorem owns_eq_of_map_eq {i j : Instr} (h : opcodeMap.map (fun r => r.owns i) = opcodeMap.map (fun r => r.owns j))
    {row : OpcodeRow} (hrow : row ∈ opcodeMap) : row.owns i = row.owns j :=
  List.map_inj_left.mp h row hrow

/-- Which row owns a bus write is decided by its address. -/
theorem owns_busWriteOf_data {row : OpcodeRow} (hrow : row ∈ opcodeMap) (a : Addr4) (d : Byte) :
    row.owns (busWriteOf a d) = row.owns (busWriteOf a 0#8) := by
  unfold busWriteOf
  split_ifs <;> exact owns_eq_of_map_eq (by rfl) hrow

theorem owns_scanTick_data {row : OpcodeRow} (hrow : row ∈ opcodeMap) (r : Row) (s : Byte) :
    row.owns (.scanTick r s) = row.owns (.scanTick r 0#8) :=
  owns_eq_of_map_eq (by rfl) hrow

theorem WordLayout.selects_eq_owns {w : Word} {i : Instr} (h : WordLayout w i) {row : OpcodeRow} (hrow : row ∈ opcodeMap) :
    row.selects w = row.owns i := by
  cases h with
  | busRead a => revert row a; decide
  | busWrite a d =>
    rw [selects_wordOf_data hrow (.inl rfl), owns_busWriteOf_data hrow]
    revert row a; decide
  | scanTick r s =>
    rw [selects_wordOf_data hrow (.inr rfl), owns_scanTick_data hrow]
    revert row r; decide
  | lineChange l | setBits l => revert row l; decide
  | framerSent | frameTimer | reset => revert row; decide

/-- Settles O3: on a word with a layout the rows that select it are those that own its operation, of which there is one. -/
theorem exactlyOneRowMatchesAWordWithReservedFieldsZero :
    Obligations.ExactlyOneRowMatchesAWordWithReservedFieldsZero := by
  intro w hz
  obtain ⟨i, hi⟩ := decode_of_reservedZero_eq_true hz
  obtain ⟨row, hfilter, howns⟩ := opcodeMap_owner i
  refine ⟨row, i, ?_, hi, howns⟩
  rw [← hfilter]
  exact List.filter_congr fun _ hrow => (wordLayout_of_decode hi).selects_eq_owns hrow

/-! ## Words of the decode table L2.1 -/

/-- Settles O5: the accepted words are those of well-formed operations, the rejected two have a reserved field set. -/
theorem sampleWordsDecodeAsListed : Obligations.SampleWordsDecodeAsListed :=
  ⟨decode_encode (i := .rdPdata) rfl, decode_encode (i := .rdReg4to7 5) rfl, decode_encode (i := .rdReg8to15 15) rfl,
    decode_encode (i := .wrReg8to15 15 0x5A) rfl, decode_encode (i := .scanTick 5 0xA3) rfl,
    decode_encode (i := .lineChange true) rfl, decode_encode (i := .setBits .six) rfl,
    decode_encode (i := .setBits .eight) rfl, decode_of_reservedZero_eq_false (w := 0x1000#16) rfl,
    decode_of_reservedZero_eq_false (w := 0x6003#16) rfl⟩

/-! ## The scan byte -/

namespace Machine

/-- Settles O28: the byte is the concatenation of its fields, the release bit first. -/
theorem scanByteHoldsReleaseRowAndColumn : Obligations.ScanByteHoldsReleaseRowAndColumn := by
  intro p r c
  change ((BitVec.ofBool (!p) ++ r) ++ c).toNat = _
  simp only [toNat_append_eq_add]
  cases p
  · change (1 * 2 ^ 4 + r.toNat) * 2 ^ 3 + c.toNat = 128 + 8 * r.toNat + c.toNat
    omega
  · change (0 * 2 ^ 4 + r.toNat) * 2 ^ 3 + c.toNat = 0 + 8 * r.toNat + c.toNat
    omega

end Machine

end Sys2Proof
end

section
/-! The exact frame on the host line (42_keyboard_line.md R123): what the receiver holds after each frame position, and the
byte it delivers at the frame timer or at the next falling edge (O45). -/

namespace Sys2Proof.Machine

/-! ## The levels and the data bits of a frame (30_encoding.md R76) -/

@[simp] theorem frameLevel_zero (b : Byte) : frameLevel b 0 = false := rfl

@[simp] theorem frameLevel_nine (b : Byte) : frameLevel b 9 = true := rfl

theorem frameLevel_data (b : Byte) {i : Nat} (h : i < 8) : frameLevel b (i + 1) = b.getLsbD i := by
  have hle : i + 1 ≤ 8 := h
  simp [frameLevel, hle]

/-- The `n` least significant bits of a byte, the others 0: the data bits of a frame before position `n + 1`. -/
def bitsBelow (b : Byte) (n : Nat) : Byte := (b.setWidth n).setWidth 8

theorem bitsBelow_getLsbD (b : Byte) (n : Nat) {i : Nat} (h : i < 8) :
    (bitsBelow b n).getLsbD i = (decide (i < n) && b.getLsbD i) := by
  simp [bitsBelow, BitVec.getLsbD_setWidth, h]

@[simp] theorem bitsBelow_zero (b : Byte) : bitsBelow b 0 = 0#8 := by
  apply BitVec.eq_of_getLsbD_eq
  intro i hi
  simp [bitsBelow_getLsbD b 0 hi]

@[simp] theorem bitsBelow_eight (b : Byte) : bitsBelow b 8 = b := by
  simp [bitsBelow]

/-- A low run adds no data bit. -/
theorem bitsBelow_of_low {b : Byte} {m n : Nat} (hmn : m ≤ n) (h : ∀ i < 8, m ≤ i → i < n → b.getLsbD i = false) :
    bitsBelow b m = bitsBelow b n := by
  apply BitVec.eq_of_getLsbD_eq
  intro i hi
  rw [bitsBelow_getLsbD b m hi, bitsBelow_getLsbD b n hi]
  by_cases hm : i < m
  · simp [hm, hm.trans_le hmn]
  · by_cases hn : i < n
    · simp [h i hi (Nat.le_of_not_lt hm) hn]
    · simp [hm, hn]

/-- A high run adds the data bits it covers. -/
theorem bitsBelow_of_high {b : Byte} {m n : Nat} (hn : 1 ≤ n) (hmn : m ≤ n)
    (h : ∀ i < 8, m ≤ i → i < n → b.getLsbD i = true) : bitsBelow b m ||| ones m (n - 1) = bitsBelow b n := by
  apply BitVec.eq_of_getLsbD_eq
  intro i hi
  rw [BitVec.getLsbD_or, ones_getLsbD, bitsBelow_getLsbD b m hi, bitsBelow_getLsbD b n hi]
  by_cases hm : i < m
  · have hnot : ¬ m ≤ i := Nat.not_le_of_lt hm
    simp [hm, hm.trans_le hmn, hnot]
  · by_cases hin : i < n
    · have hle : i ≤ n - 1 := by omega
      simp [h i hi (Nat.le_of_not_lt hm) hin, hin, hi, hle, Nat.le_of_not_lt hm]
    · have hnot : ¬ i ≤ n - 1 := by omega
      simp [hm, hin, hnot]

/-! ## Exact pulses -/

/-- A width of exactly `k` bit periods is classified as `k` (R111). -/
theorem classify_exact {cfg : Config} {k : Nat} (hT : 0 < cfg.bitPeriod) (hk : 1 ≤ k) :
    classify cfg (k * cfg.bitPeriod) = some k := by
  have hround : (k * cfg.bitPeriod + cfg.bitPeriod / 2) / cfg.bitPeriod = k := by
    rw [Nat.add_comm, Nat.add_mul_div_right _ _ hT, Nat.div_eq_of_lt (Nat.div_lt_self hT (by decide)), Nat.zero_add]
  simp [classify, hround, hk]

/-- An exact high run that ends before or at the beginning of position 9 does not last through the stop bit (R117). -/
theorem reachesStop_exact_eq_false {cfg : Config} (htol : 2 * cfg.bitTol < cfg.bitPeriod) {pos k : Nat} (h : pos + k ≤ 9) :
    reachesStop cfg pos (k * cfg.bitPeriod) = false := by
  refine Bool.eq_false_of_not_eq_true fun hstop => ?_
  rw [reachesStop_iff] at hstop
  have hmul : (k + 1) * cfg.bitPeriod ≤ (10 - pos) * cfg.bitPeriod := Nat.mul_le_mul_right _ (by omega)
  rw [Nat.add_mul] at hmul
  omega

theorem riseEdge_exact {cfg : Config} (hT : 0 < cfg.bitPeriod) {pos k : Nat} (hk : 1 ≤ k) (h : pos + k ≤ 9) (shift : Byte) :
    riseEdge cfg (k * cfg.bitPeriod) (.rx pos shift) = .rx (pos + k) shift := by
  simp only [riseEdge, classify_exact hT hk]
  exact if_neg (by omega)

theorem fallEdge_exact {cfg : Config} (hT : 0 < cfg.bitPeriod) (htol : 2 * cfg.bitTol < cfg.bitPeriod) {pos k : Nat}
    (hpos : pos ≠ 0) (hk : 1 ≤ k) (h : pos + k ≤ 9) (shift : Byte) :
    fallEdge cfg (k * cfg.bitPeriod) (.rx pos shift) =
      (.rx (pos + k) (shift ||| ones (pos - 1) (pos + k - 2)), none) := by
  simp [fallEdge, hpos, reachesStop_exact_eq_false htol h, classify_exact hT hk]

/-- The run of equal levels of a frame from position `c` to `p`, at its end: the receiver has the data bits up to there
(R116, R117). -/
theorem decodePulse_run {cfg : Config} (hv : cfg.Valid) {b : Byte} {level : Bool} {c p : Nat} (hcp : c ≤ p) (hp : p ≤ 8)
    (hrun : ∀ q, c ≤ q → q ≤ p → frameLevel b q = level) :
    decodePulse cfg level ((p + 1 - c) * cfg.bitPeriod) (.rx c (bitsBelow b (c - 1))) =
      (.rx (p + 1) (bitsBelow b p), none) := by
  obtain ⟨-, hT, htol, -⟩ := hv
  have hk : 1 ≤ p + 1 - c := by omega
  have hend : c + (p + 1 - c) = p + 1 := by omega
  have hbits : ∀ i < 8, c - 1 ≤ i → i < p → b.getLsbD i = level := fun i hi hci hip => by
    rw [← frameLevel_data b hi, hrun (i + 1) (by omega) (by omega)]
  cases level with
  | false =>
    simp only [decodePulse, Bool.false_eq_true, if_false]
    rw [riseEdge_exact hT hk (by omega), hend, bitsBelow_of_low (by omega) hbits]
  | true =>
    have hc : c ≠ 0 := by
      rintro rfl
      cases hrun 0 (Nat.le_refl 0) (Nat.zero_le p)
    have hlast : p + 1 - 2 = p - 1 := by omega
    simp only [decodePulse, if_true]
    rw [fallEdge_exact hT htol hc hk (by omega), hend, hlast, bitsBelow_of_high (by omega) (by omega) hbits]

/-! ## Transitions and the timer as stimuli -/

/-- The word of a well-formed operation, in order, runs the operation after the prologue (00_scope.md R18). -/
theorem applyStimulus_encode {i : Instr} (hi : i.WellFormed) {s : State} {now : Nat} (hnow : s.lastTime ≤ now) :
    applyStimulus ⟨encode i, now⟩ s = exec i (s.prologue i.kind now) :=
  applyStimulus_eq_exec ⟨encode i, now⟩ s i (decode_encode hi) hnow

theorem State.deliver_rx (s : State) (o : Option Byte) : (s.deliver o).rx = s.rx := by
  obtain ⟨l, hl⟩ := s.deliver_outputs o
  rw [hl]

theorem State.deliver_some_outputs (s : State) (b : Byte) :
    (s.deliver (some b)).outputs = s.outputs ++ clicksOf s.config b s.lastTime := by
  rw [State.deliver_some, clicksOf]
  split <;> simp

/-- A transition of the line in order, with what its pulse decodes to (R112). -/
theorem applyStimulus_transition {s : State} {l : Bool} {now : Nat} {r : RxState} {o : Option Byte} (hl : l ≠ s.lineLevel)
    (hnow : s.lastTime ≤ now) (hd : decodePulse s.config s.lineLevel (now - s.lastChange) s.rx = (r, o)) :
    applyStimulus ⟨encode (.lineChange l), now⟩ s =
      .next ((((s.prologue .lineChange now).setRx r).deliver o).setLine l) := by
  rw [applyStimulus_encode (i := .lineChange l) rfl hnow]
  change Host.Outcome.next ((s.prologue .lineChange now).changeLine l) = _
  obtain ⟨heq, -⟩ | ⟨-, h⟩ := (s.prologue .lineChange now).changeLine_cases l
  · exact absurd heq hl
  · simp only [State.prologue_config, State.prologue_lineLevel, State.prologue_lastTime, State.prologue_lastChange,
      State.prologue_rx, hd] at h
    rw [h]

/-- A frame timer in order that completes a frame (R121). -/
theorem applyStimulus_timer {s : State} {now : Nat} {b : Byte} (hnow : s.lastTime ≤ now)
    (hb : timerByte s.config s.lineLevel s.lastChange now s.rx = some b) :
    applyStimulus ⟨encode .frameTimer, now⟩ s =
      .next (((s.prologue .frameTimer now).deliver (some b)).setRx .idle) := by
  rw [applyStimulus_encode (i := .frameTimer) rfl hnow]
  change Host.Outcome.next (s.prologue .frameTimer now).expireTimer = _
  obtain ⟨hnone, -⟩ | ⟨b', hb', h⟩ := (s.prologue .frameTimer now).expireTimer_cases
  · cases hb.symm.trans hnone
  · cases hb.symm.trans hb'
    rw [h]

/-! ## The frame, position by position -/

/-- After the transitions of a frame of `b`, begun at `t` from `s`, up to position `p`: the line has had one level since
position `c`, and the receiver holds `c` and the data bits before it. -/
structure FrameReceived (s : State) (b : Byte) (t p c : Nat) (u : State) : Prop where
  start_le : c ≤ p
  run : ∀ q, c ≤ q → q ≤ p → frameLevel b q = u.lineLevel
  rx : u.rx = .rx c (bitsBelow b (c - 1))
  lastChange : u.lastChange = t + c * s.config.bitPeriod
  lastTime : u.lastTime = t + c * s.config.bitPeriod
  config : u.config = s.config
  outputs : u.outputs = s.outputs

theorem frameEdges_upTo_succ (cfg : Config) (t : Nat) (b : Byte) (p : Nat) :
    (List.range (p + 1)).filterMap (frameEdge cfg t b) =
      (List.range p).filterMap (frameEdge cfg t b) ++ (frameEdge cfg t b p).toList := by
  rw [List.range_succ, List.filterMap_append]
  cases h : frameEdge cfg t b p <;> simp [h]

theorem applyAll_singleton (st : Stimulus) {s u : State} (h : applyStimulus st s = .next u) : applyAll [st] s = .next u :=
  applyAll_cons_next st [] s u h

/-- The start bit's falling edge begins the frame (R114). -/
theorem FrameReceived.start {s : State} {t : Nat} (b : Byte) (hrx : s.rx = .idle) (hline : s.lineLevel = true)
    (ht : s.lastTime ≤ t) :
    ∃ u, applyAll (frameEdge s.config t b 0).toList s = .next u ∧ FrameReceived s b t 0 0 u := by
  have hedge : frameEdge s.config t b 0 = some ⟨encode (.lineChange false), t⟩ := by
    simp [frameEdge, levelBefore]
  have hd : decodePulse s.config s.lineLevel (t - s.lastChange) s.rx = (.rx 0 0#8, none) := by
    rw [hrx, hline]; rfl
  rw [hedge]
  refine ⟨_, applyAll_singleton _ (applyStimulus_transition (by simp [hline]) ht hd), ?_⟩
  exact {
    start_le := Nat.le_refl 0
    run := fun q _ hq => by rw [Nat.le_zero.mp hq]; rfl
    rx := by simp
    lastChange := by simp
    lastTime := by simp
    config := by simp
    outputs := by simp }

/-- At the next position either the run goes on and nothing is sent, or its pulse is decoded and the next run begins. -/
theorem FrameReceived.succ {s u : State} {b : Byte} {t p c : Nat} (hv : s.config.Valid) (h : FrameReceived s b t p c u)
    (hp : p ≤ 8) :
    ∃ u' c', applyAll (frameEdge s.config t b (p + 1)).toList u = .next u' ∧ FrameReceived s b t (p + 1) c' u' := by
  have hbefore : levelBefore b (p + 1) = u.lineLevel := h.run p h.start_le (Nat.le_refl p)
  have hle := h.start_le
  by_cases hlevel : frameLevel b (p + 1) = u.lineLevel
  · refine ⟨u, c, ?_, { h with start_le := by omega, run := fun q hcq hqp => ?_ }⟩
    · simp [frameEdge, hbefore, hlevel, applyAll]
    · obtain hlt | rfl := Nat.lt_or_eq_of_le hqp
      · exact h.run q hcq (by omega)
      · exact hlevel
  · have hwidth : t + (p + 1) * s.config.bitPeriod - u.lastChange = (p + 1 - c) * s.config.bitPeriod := by
      rw [h.lastChange, Nat.add_sub_add_left, Nat.sub_mul]
    have htime : u.lastTime ≤ t + (p + 1) * s.config.bitPeriod := by
      rw [h.lastTime]
      exact Nat.add_le_add_left (Nat.mul_le_mul_right _ (by omega)) t
    have hd : decodePulse u.config u.lineLevel (t + (p + 1) * s.config.bitPeriod - u.lastChange) u.rx =
        (.rx (p + 1) (bitsBelow b p), none) := by
      rw [hwidth, h.config, h.rx]
      exact decodePulse_run hv hle hp h.run
    have hedge : frameEdge s.config t b (p + 1) =
        some ⟨encode (.lineChange (frameLevel b (p + 1))), t + (p + 1) * s.config.bitPeriod⟩ := by
      simp [frameEdge, hbefore, hlevel]
    rw [hedge]
    refine ⟨_, p + 1, applyAll_singleton _ (applyStimulus_transition hlevel htime hd), ?_⟩
    exact {
      start_le := Nat.le_refl _
      run := fun q hlo hhi => by rw [Nat.le_antisymm hhi hlo]; rfl
      rx := by simp
      lastChange := by simp
      lastTime := by simp
      config := by simp [h.config]
      outputs := by simp [h.outputs] }

theorem FrameReceived.upTo {s : State} {t : Nat} (b : Byte) (hv : s.config.Valid) (hrx : s.rx = .idle)
    (hline : s.lineLevel = true) (ht : s.lastTime ≤ t) :
    ∀ p ≤ 9, ∃ u c, applyAll ((List.range (p + 1)).filterMap (frameEdge s.config t b)) s = .next u ∧
      FrameReceived s b t p c u
  | 0, _ => by
    obtain ⟨u, happly, hu⟩ := FrameReceived.start b hrx hline ht
    rw [frameEdges_upTo_succ]
    exact ⟨u, 0, happly, hu⟩
  | p + 1, hp => by
    obtain ⟨u, c, happly, hu⟩ := FrameReceived.upTo b hv hrx hline ht p (by omega)
    obtain ⟨u', c', happly', hu'⟩ := hu.succ hv (by omega)
    rw [frameEdges_upTo_succ, applyAll_append _ _ _ _ happly]
    exact ⟨u', c', happly', hu'⟩

/-! ## The completed frame -/

/-- What a received frame leaves: the line is high in a run that reaches the stop bit, and completing the run gives the byte. -/
theorem FrameReceived.complete {s u : State} {b : Byte} {t c : Nat} (hv : s.config.Valid) (h : FrameReceived s b t 9 c u)
    {d : Nat} (hd : t + 10 * s.config.bitPeriod - s.config.bitTol ≤ d) :
    u.lineLevel = true ∧ c ≠ 0 ∧ u.lastTime ≤ d ∧ reachesStop s.config c (d - u.lastChange) = true ∧
      completedByte c (bitsBelow b (c - 1)) = b := by
  have hhigh : u.lineLevel = true := (h.run 9 h.start_le (Nat.le_refl 9)).symm
  have hc : c ≠ 0 := by
    rintro rfl
    cases (h.run 0 (Nat.le_refl 0) (Nat.zero_le 9)).trans hhigh
  have hle := h.start_le
  obtain ⟨-, hT, htol, -⟩ := hv
  have hsplit : c * s.config.bitPeriod + (10 - c) * s.config.bitPeriod = 10 * s.config.bitPeriod := by
    rw [← Nat.add_mul]
    congr 1
    omega
  have hone : 1 * s.config.bitPeriod ≤ (10 - c) * s.config.bitPeriod := Nat.mul_le_mul_right _ (by omega)
  refine ⟨hhigh, hc, ?_, ?_, ?_⟩
  · rw [h.lastTime]; omega
  · rw [reachesStop_iff, h.lastChange]; omega
  · have hbits : ∀ i < 8, c - 1 ≤ i → i < 8 → b.getLsbD i = true := fun i hi hci _ => by
      rw [← frameLevel_data b hi, h.run (i + 1) (by omega) (by omega), hhigh]
    rw [completedByte, bitsBelow_of_high (n := 8) (by decide) (by omega) hbits, bitsBelow_eight]

/-- Settles O45: position by position the receiver collects the byte's bits, and from the frame deadline on both the timer and the
falling edge complete the last run. -/
theorem exactFrameDeliversItsByte : Obligations.ExactFrameDeliversItsByte := by
  intro s b t d hv hrx hline ht hd
  obtain ⟨u, c, happly, hu⟩ := FrameReceived.upTo b hv hrx hline ht 9 (Nat.le_refl 9)
  obtain ⟨hhigh, hc, hnow, hstop, hbyte⟩ := hu.complete hv hd
  have htimer : timerByte u.config u.lineLevel u.lastChange d u.rx = some b := by
    simp [timerByte, hu.rx, hu.config, hhigh, hstop, hbyte, Nat.one_le_iff_ne_zero.mpr hc]
  have hfall : decodePulse u.config u.lineLevel (d - u.lastChange) u.rx = (.rx 0 0#8, some b) := by
    simp [decodePulse, fallEdge, hu.rx, hu.config, hhigh, hstop, hbyte, hc]
  refine ⟨u, _, _, happly, hu.outputs, applyStimulus_timer hnow htimer, rfl, ?_,
    applyStimulus_transition (by simp [hhigh]) hnow hfall, ?_, ?_⟩
  · simp [State.deliver_some_outputs, hu.outputs, hu.config]
  · simp [State.deliver_rx]
  · simp [State.deliver_some_outputs, hu.outputs, hu.config]

end Sys2Proof.Machine
end

section
/-! The palette controller's operations one by one (40_palette.md): cursors and palette data (O11, O12, O14, O17), general
registers (O13, O15), the DAC and its depth (O24, O26, O27), and what bus operations emit (O53). -/

namespace Sys2Proof.Machine

/-! ## Reads and writes of cursors and registers -/

/-- Settles O11: both reads are one `emit`. -/
theorem cursorReadsReturnTheCursorAndChangeNothing : Obligations.CursorReadsReturnTheCursorAndChangeNothing :=
  ⟨rfl, rfl, fun _ => ⟨rfl, rfl⟩⟩

/-- Settles O13: the words are those of the bus read layout, and the three rows run one meaning. -/
theorem readRegisterReturnsItAndChangesNothing : Obligations.ReadRegisterReturnsItAndChangesNothing := by
  have hword (a : Addr4) : (wordOf .busRead a 0#8).toNat = a.toNat * 256 := by simp [wordOf_toNat, Kind.bits]
  exact ⟨rfl, fun a => ⟨hword a, hword a⟩, fun _ _ => ⟨rfl, rfl, rfl⟩⟩

/-- The word of a bus write as a number (30_encoding.md R67). -/
theorem busWriteWord_toNat (a : Addr4) (d : Byte) :
    (wordOf .busWrite a d).toNat = 0x2000 + a.toNat * 256 + d.toNat :=
  wordOf_toNat .busWrite a d

/-- Settles O14: the words are those of the bus write layout, and both meanings write one cursor. -/
theorem writeIndexPortsSetACursorAndClearItsPhase : Obligations.WriteIndexPortsSetACursorAndClearItsPhase :=
  fun d _ => ⟨busWriteWord_toNat 0x0 d, busWriteWord_toNat 0x3 d, rfl, rfl⟩

/-- Settles O15: the three rows write one register of the file. -/
theorem writeRegisterStoresTheByteAndNothingElse : Obligations.WriteRegisterStoresTheByteAndNothingElse :=
  fun s a d => ⟨busWriteWord_toNat 0x2 d, busWriteWord_toNat a d, busWriteWord_toNat a d,
    ⟨_, rfl, rfl, fun b => s.reg_setReg 2 b d⟩, ⟨_, rfl, rfl, fun b => s.reg_setReg a b d⟩,
    ⟨_, rfl, rfl, fun b => s.reg_setReg a b d⟩⟩

/-! ## Palette data -/

/-- The phases of a triplet are counted modulo 3 (10_state.md R28, R29). -/
theorem nextPhase_val_mod (k : Channel) : (nextPhase k).val = (k.val + 1) % 3 := by
  revert k; decide

/-- Settles O12: the read of R85 at once, for every phase. -/
theorem readPaletteDataReturnsTheStoredByteAndMovesTheReadCursor :
    Obligations.ReadPaletteDataReturnsTheStoredByteAndMovesTheReadCursor := by
  refine ⟨rfl, fun s => ⟨_, congrArg Host.Outcome.next s.readData_eq, rfl, nextPhase_val_mod s.readPhase, ?_⟩⟩
  have hlast : s.readPhase.val = 2 ↔ s.readPhase = 2 := (Fin.ext_iff (b := 2)).symm
  by_cases h : s.readPhase = 2 <;> simp [hlast, h]

@[simp] theorem State.palByte_setStage (s : State) (k : Channel) (v : Byte) (c : Channel) (e : Byte) :
    (s.setStage k v).palByte c e = s.palByte c e := rfl

@[simp] theorem State.color_setStage (s : State) (k : Channel) (v : Byte) (e : Byte) :
    (s.setStage k v).color e = s.color e := rfl

/-- Settles O17: the commit of R90 runs with the third byte already staged. -/
theorem thirdPaletteByteCommitsTheTriplet : Obligations.ThirdPaletteByteCommitsTheTriplet := by
  intro s d hphase
  refine ⟨_, congrArg Host.Outcome.next (State.writeData_of_third hphase d), rfl, ?_, fun e => ?_, fun e => ?_,
    fun e => ?_, fun e => ?_⟩
  · simp [State.commit_eq]
  · simpa using (s.setStage 2 d).palByte_commit 0 e
  · simpa using (s.setStage 2 d).palByte_commit 1 e
  · simpa using (s.setStage 2 d).palByte_commit 2 e
  · simpa using (s.setStage 2 d).color_commit e

/-! ## The DAC and its depth -/

/-- The mask of a depth as a number (40_palette.md R94). -/
theorem dacMask_toNat (bits : BitDepth) : (dacMask bits).toNat = (0xFF <<< (8 - bits.toNat)) &&& 0xFF := by
  cases bits <;> rfl

/-- Settles O24: the DAC is the mask of its depth, and every bit is in the mask of depth 8. -/
theorem dacKeepsTheSignificantBitsInPlace : Obligations.DacKeepsTheSignificantBitsInPlace := by
  refine ⟨fun v => ⟨?_, ?_⟩, fun v bits => ?_, fun _ _ _ _ => rfl⟩
  · rw [dac, dacMask_six]
  · rw [dac, dacMask_eight]
    exact BitVec.and_allOnes
  · rw [dac, BitVec.toNat_and, dacMask_toNat]

/-- Settles O26: `active` alone decides between setting the depth and the refusal. -/
theorem setBitsSetsTheDepthAndRecomputesEveryPen : Obligations.SetBitsSetsTheDepthAndRecomputesEveryPen := by
  refine ⟨rfl, rfl, fun bits s => ⟨fun hactive => ⟨s.setDepth bits, ?_, rfl, s.color_setDepth bits⟩, fun hactive => ?_⟩⟩
  · simp only [exec, execSetBits, hactive, Bool.false_eq_true, if_false]
  · simp only [exec, execSetBits, hactive, if_true]

/-- The configuration's SET_BITS finds its depth and pens at power-on already (40_palette.md R98; log 8). -/
theorem setDepth_prologue_powerOn (cfg : Config) (bits : BitDepth) :
    ((State.powerOn cfg bits).prologue .setBits 0).setDepth bits = State.powerOn cfg bits := rfl

theorem construct_eq_powerOn {cfg : Config} {bits : BitDepth} (h : BitDepth.ofNat? cfg.dacBits = some bits) :
    construct cfg = .next (State.powerOn cfg bits) := by
  rw [construct_of_ofNat?_eq_some h, setDepth_prologue_powerOn]

/-- Settles O27: the two depths construct, no other value names one, and RESET at power-on writes what is there. -/
theorem constructionGivesThePowerOnState : Obligations.ConstructionGivesThePowerOnState := by
  refine fun cfg => ⟨fun h6 => construct_eq_powerOn (by rw [h6]; rfl), fun h8 => construct_eq_powerOn (by rw [h8]; rfl),
    fun h6 h8 => ?_, fun _ => rfl⟩
  have hnone := (BitDepth.ofNat?_eq_none_iff cfg.dacBits).mpr ⟨h6, h8⟩
  simp only [construct, hnone]

/-! ## What bus operations emit -/

/-- Settles O53: a read emits its byte; no write is among the writers of the outputs. -/
theorem busReadsEmitOneByteAndBusWritesNone : Obligations.BusReadsEmitOneByteAndBusWritesNone := by
  refine ⟨fun i s hkind => ?_, fun i s hkind => ?_⟩
  · cases i with
    | rdWaddr | rdReg2 | rdRaddr | rdReg4to7 | rdReg8to15 => exact ⟨_, _, rfl, rfl⟩
    | rdPdata => exact ⟨_, _, rfl, congrArg State.outputs s.readData_eq⟩
    | wrWaddr | wrPdata | wrReg2 | wrRaddr | wrReg4to7 | wrReg8to15 => cases hkind
    | scanTick | lineChange | framerSent | frameTimer | reset | setBits => cases hkind
  · obtain ⟨t, ht⟩ | ⟨bits, rfl, -, -⟩ := exec_cases i s
    · refine ⟨t, ht, ?_⟩
      by_contra hne
      obtain rfl | rfl : i = .framerSent ∨ i = .frameTimer := by
        simpa [hkind] using (exec_onlyWritersWrite ht).outputs hne
      · cases hkind
      · cases hkind
    · cases hkind

end Sys2Proof.Machine
end

section
/-! Sequences of bus operations at times of their own. Bus operations read neither the time nor `active`, so such a sequence
does what its operations do one after the other, whenever they come (10_state.md R34, R44; 20_memory.md R60). -/

namespace Sys2Proof

/-- A bus operation that some word names (30_encoding.md R67, R71). -/
def Instr.isBusOp (i : Instr) : Bool :=
  (decide (i.kind = .busRead) || decide (i.kind = .busWrite)) && i.wellFormed

theorem Instr.wellFormed_of_isBusOp {i : Instr} (h : i.isBusOp = true) : i.WellFormed := by
  rw [Instr.isBusOp, Bool.and_eq_true] at h
  exact h.2

namespace Machine

/-- A state with another history flag and another time: all a prologue writes (00_scope.md R18). -/
def State.stamp (s : State) (active : Bool) (now : Nat) : State := { s with active := active, lastTime := now }

/-- The state a bus operation answers with; that it always answers with one is `exec_bus`. -/
def busNext (i : Instr) (s : State) : State :=
  match exec i s with
  | .next t => t
  | .fault _ => s
  | .refused _ => s

/-- Bus operations one after the other. -/
def busRun (ops : List Instr) (s : State) : State := ops.foldl (fun u i => busNext i u) s

@[simp] theorem busRun_nil (s : State) : busRun [] s = s := rfl

@[simp] theorem busRun_cons (i : Instr) (ops : List Instr) (s : State) :
    busRun (i :: ops) s = busRun ops (busNext i s) := rfl

theorem busNext_rdPdata (s : State) : busNext .rdPdata s = s.readData := rfl

/-- Every bus operation completes (40_palette.md R82, R83). -/
theorem exec_bus {i : Instr} (hi : i.isBusOp = true) (s : State) : exec i s = .next (busNext i s) := by
  obtain ⟨t, ht⟩ | ⟨bits, rfl, -, -⟩ := exec_cases i s
  · rw [busNext, ht]
  · cases hi

theorem State.writeData_stamp (s : State) (active : Bool) (now : Nat) (d : Byte) :
    (s.stamp active now).writeData d = (s.writeData d).stamp active now := by
  have hphase : (s.stamp active now).writePhase = s.writePhase := rfl
  simp only [State.writeData, hphase]
  split <;> rfl

theorem busNext_stamp {i : Instr} (hi : i.isBusOp = true) (s : State) (active : Bool) (now : Nat) :
    busNext i (s.stamp active now) = (busNext i s).stamp active now := by
  cases i with
  | rdWaddr | rdReg2 | rdRaddr | rdReg4to7 | rdReg8to15 => rfl
  | wrWaddr | wrReg2 | wrRaddr | wrReg4to7 | wrReg8to15 => rfl
  | rdPdata =>
    rw [busNext_rdPdata, busNext_rdPdata, State.readData_eq, State.readData_eq]
    rfl
  | wrPdata d => exact s.writeData_stamp active now d
  | scanTick | lineChange | framerSent | frameTimer | reset | setBits => cases hi

theorem busRun_stamp {ops : List Instr} (hops : ops.all Instr.isBusOp = true) (s : State) (active : Bool) (now : Nat) :
    busRun ops (s.stamp active now) = (busRun ops s).stamp active now := by
  induction ops generalizing s with
  | nil => rfl
  | cons i ops ih =>
    rw [List.all_cons, Bool.and_eq_true] at hops
    obtain ⟨hi, hops⟩ := hops
    rw [busRun_cons, busRun_cons, busNext_stamp hi, ih hops]

/-- Bus operations at non-decreasing times complete, and the times show in the time and the flag alone. -/
theorem applyAll_bus {ops : List Instr} (hops : ops.all Instr.isBusOp = true) {s : State} {l : List (Instr × Nat)}
    (hl : TimedFrom s.lastTime ops l) :
    ∃ active now, applyAll (stimuliOf l) s = .next ((busRun ops s).stamp active now) := by
  induction ops generalizing s l with
  | nil =>
    rw [timedFrom_nil] at hl
    exact ⟨s.active, s.lastTime, by rw [hl]; rfl⟩
  | cons i ops ih =>
    obtain ⟨now, rest, rfl, hnow, hrest⟩ := (timedFrom_cons _ _ _ _).mp hl
    rw [List.all_cons, Bool.and_eq_true] at hops
    obtain ⟨hi, hops⟩ := hops
    have hfirst : applyStimulus ⟨encode i, now⟩ s = .next ((busNext i s).stamp (activeAfter s.active i.kind) now) := by
      rw [applyStimulus_encode (Instr.wellFormed_of_isBusOp hi) hnow, exec_bus hi, ← busNext_stamp hi]
      rfl
    obtain ⟨active, last, hlast⟩ := ih hops (s := (busNext i s).stamp (activeAfter s.active i.kind) now) hrest
    refine ⟨active, last, ?_⟩
    rw [stimuliOf_cons, applyAll_cons_next _ _ _ _ hfirst, hlast, busRun_stamp hops, busRun_cons]
    rfl

end Machine

end Sys2Proof
end

section
/-! Triplets (40_palette.md): the round trip (O18), consecutive entries (O20), one entry written or read from any phase (O21,
O22), and the cursors of interleaved transfers (O19). -/

namespace Sys2Proof.Machine

/-! ## One triplet -/

/-- A color as the three bytes of its triplet, red, green, blue. -/
abbrev Triplet := Byte × Byte × Byte

/-- The byte of a triplet for a channel (10_state.md R28). -/
def Triplet.byte (x : Triplet) (c : Channel) : Byte := if c = 0 then x.1 else if c = 1 then x.2.1 else x.2.2

/-- Three palette-data writes. -/
def State.writeTriplet (s : State) (x : Triplet) : State := ((s.writeData x.1).writeData x.2.1).writeData x.2.2

/-- Three palette-data reads. -/
def State.readTriplet (s : State) : State := s.readData.readData.readData

theorem State.writeData_of_first {s : State} (h : s.writePhase = 0) (d : Byte) :
    s.writeData d = (s.setStage 0 d).setWriteCursor s.writeIndex 1 := by
  rw [State.writeData, h]
  rfl

theorem State.writeData_of_second {s : State} (h : s.writePhase = 1) (d : Byte) :
    s.writeData d = (s.setStage 1 d).setWriteCursor s.writeIndex 2 := by
  rw [State.writeData, h]
  rfl

/-- From phase 0 a triplet is staged whole and committed (40_palette.md R89, R90). -/
theorem State.writeTriplet_eq {s : State} (h : s.writePhase = 0) (x : Triplet) :
    s.writeTriplet x = { s with stage := #v[x.1, x.2.1, x.2.2] }.commit := by
  have hstage : ((s.stage.set 0 x.1).set 1 x.2.1).set 2 x.2.2 = #v[x.1, x.2.1, x.2.2] := by
    ext k hk
    match k with
    | 0 | 1 | 2 => simp
  rw [State.writeTriplet, State.writeData_of_first h, State.writeData_of_second rfl x.2.1, State.writeData_of_third rfl x.2.2,
    ← hstage]
  rfl

theorem State.writeTriplet_writeIndex {s : State} (h : s.writePhase = 0) (x : Triplet) :
    (s.writeTriplet x).writeIndex = s.writeIndex + 1 := by
  rw [State.writeTriplet_eq h]
  rfl

theorem State.writeTriplet_writePhase {s : State} (h : s.writePhase = 0) (x : Triplet) :
    (s.writeTriplet x).writePhase = 0 := by
  rw [State.writeTriplet_eq h]
  rfl

theorem State.writeTriplet_outputs {s : State} (h : s.writePhase = 0) (x : Triplet) :
    (s.writeTriplet x).outputs = s.outputs := by
  rw [State.writeTriplet_eq h]
  rfl

theorem State.palByte_writeTriplet {s : State} (h : s.writePhase = 0) (x : Triplet) (c : Channel) (e : Byte) :
    (s.writeTriplet x).palByte c e = if e = s.writeIndex then x.byte c else s.palByte c e := by
  rw [State.writeTriplet_eq h, State.palByte_commit]
  match c with
  | 0 | 1 | 2 => rfl

theorem State.color_writeTriplet {s : State} (h : s.writePhase = 0) (x : Triplet) (e : Byte) :
    (s.writeTriplet x).color e = if e = s.writeIndex then pen x.1 x.2.1 x.2.2 s.dacBits else s.color e := by
  rw [State.writeTriplet_eq h, State.color_commit]
  rfl

/-- From phase 0 three reads return the entry's bytes in the order of their channels (R85). -/
theorem State.readTriplet_eq {s : State} (h : s.readPhase = 0) :
    s.readTriplet = { s with
      readIndex := s.readIndex + 1
      outputs := s.outputs ++
        [.busData (s.palByte 0 s.readIndex), .busData (s.palByte 1 s.readIndex), .busData (s.palByte 2 s.readIndex)] } := by
  simp [State.readTriplet, State.readData_eq, h, State.palByte]

/-- Settles O22: a write of the read index begins a triplet, and the reads see nothing but palette memory. -/
theorem readEntryReturnsTheEntryFromAnyPhase : Obligations.ReadEntryReturnsTheEntryFromAnyPhase := by
  intro s e l hl
  obtain ⟨active, now, happly⟩ := applyAll_bus (ops := readEntry e) rfl hl
  have hrun : busRun (readEntry e) s = (s.setReadCursor e 0).readTriplet := rfl
  rw [hrun, State.readTriplet_eq rfl] at happly
  exact ⟨_, happly, rfl, rfl, rfl, rfl, rfl, rfl⟩

/-- Settles O21: a write of the write index begins a triplet, and the commit writes all three slots staged since. -/
theorem writeEntryCommitsAtItsEntryFromAnyPhase : Obligations.WriteEntryCommitsAtItsEntryFromAnyPhase := by
  intro s e r g b l hl
  obtain ⟨active, now, happly⟩ := applyAll_bus (ops := writeEntry e r g b) rfl hl
  have hrun : busRun (writeEntry e r g b) s = (s.setWriteCursor e 0).writeTriplet (r, g, b) := rfl
  have hphase : (s.setWriteCursor e 0).writePhase = 0 := rfl
  rw [hrun] at happly
  exact ⟨_, happly, State.writeTriplet_writeIndex hphase (r, g, b), State.writeTriplet_writePhase hphase (r, g, b),
    State.palByte_writeTriplet hphase (r, g, b), State.color_writeTriplet hphase (r, g, b)⟩

/-- Settles O18: the three reads find at the old write index what the three writes committed there. -/
theorem paletteRoundTripReturnsTheBytesWritten : Obligations.PaletteRoundTripReturnsTheBytesWritten := by
  intro s r g b l hphase hl
  obtain ⟨active, now, happly⟩ := applyAll_bus rfl hl
  have hrun : busRun [.wrPdata r, .wrPdata g, .wrPdata b, .wrRaddr s.writeIndex, .rdPdata, .rdPdata, .rdPdata] s =
      ((s.writeTriplet (r, g, b)).setReadCursor s.writeIndex 0).readTriplet := rfl
  have hbyte (c : Channel) : ((s.writeTriplet (r, g, b)).setReadCursor s.writeIndex 0).palByte c s.writeIndex =
      Triplet.byte (r, g, b) c :=
    (State.palByte_writeTriplet hphase (r, g, b) c s.writeIndex).trans (if_pos rfl)
  rw [hrun, State.readTriplet_eq rfl] at happly
  refine ⟨_, happly, ?_, ?_⟩
  · simp [State.stamp, hbyte, State.writeTriplet_outputs hphase, Triplet.byte]
  · simp [State.stamp, State.writeTriplet_writeIndex hphase]

/-! ## Consecutive triplets -/

theorem busRun_writeTriplets_cons (x : Triplet) (colors : List Triplet) (s : State) :
    busRun (writeTriplets (x :: colors)) s = busRun (writeTriplets colors) (s.writeTriplet x) := rfl

theorem writeTriplets_isBusOp (colors : List Triplet) : (writeTriplets colors).all Instr.isBusOp = true := by
  induction colors with
  | nil => rfl
  | cons x colors ih => exact ih

/-- The `k`-th entry from the next one is the one after the `k`-th (10_state.md R25; 40_palette.md R91). -/
theorem entry_succ (e : Byte) (k : Nat) : e + 1 + BitVec.ofNat 8 k = e + BitVec.ofNat 8 (k + 1) := by
  bv_omega

/-- Fewer than 256 entries on, the entry is another one. -/
theorem entry_ne_of_lt (e : Byte) {k : Nat} (h : k < 255) : e ≠ e + 1 + BitVec.ofNat 8 k := by
  bv_omega

/-- `t` is `s` with the entries from the write index on filled with `colors`, one after the other. -/
structure EntriesFilled (s : State) (colors : List Triplet) (t : State) : Prop where
  writeIndex : t.writeIndex = s.writeIndex + BitVec.ofNat 8 colors.length
  writePhase : t.writePhase = 0
  filled : ∀ (k : Nat) (h : k < colors.length) (c : Channel),
    t.palByte c (s.writeIndex + BitVec.ofNat 8 k) = Triplet.byte colors[k] c
  others : ∀ (c : Channel) (e : Byte), (∀ k < colors.length, e ≠ s.writeIndex + BitVec.ofNat 8 k) →
    t.palByte c e = s.palByte c e

/-- The first triplet fills its entry, and the later ones, fewer than 256, do not come back to it. -/
theorem EntriesFilled.cons {s t : State} {x : Triplet} {colors : List Triplet} (hphase : s.writePhase = 0)
    (hlen : colors.length < 256) (h : EntriesFilled (s.writeTriplet x) colors t) : EntriesFilled s (x :: colors) t := by
  obtain ⟨hindex, htphase, hfilled, hothers⟩ := h
  simp only [State.writeTriplet_writeIndex hphase, entry_succ] at hindex hfilled hothers
  refine ⟨hindex, htphase, fun k hk c => ?_, fun c e he => ?_⟩
  · cases k with
    | zero =>
      have hkept := hothers c s.writeIndex fun k hk => entry_succ _ k ▸ entry_ne_of_lt _ (by omega)
      simpa [State.palByte_writeTriplet hphase] using hkept
    | succ k => exact hfilled k (Nat.lt_of_succ_lt_succ hk) c
  · have hfirst : e ≠ s.writeIndex := by simpa using he 0 (Nat.succ_pos _)
    rw [hothers c e fun k hk => he (k + 1) (Nat.succ_lt_succ hk), State.palByte_writeTriplet hphase, if_neg hfirst]

theorem busRun_writeTriplets {s : State} {colors : List Triplet} (hphase : s.writePhase = 0)
    (hlen : colors.length ≤ 256) : EntriesFilled s colors (busRun (writeTriplets colors) s) := by
  induction colors generalizing s with
  | nil => exact ⟨by simp [writeTriplets], hphase, fun k hk => absurd hk (Nat.not_lt_zero k), fun _ _ _ => rfl⟩
  | cons x colors ih =>
    have hrest := ih (State.writeTriplet_writePhase hphase x) (Nat.le_of_succ_le hlen)
    rw [busRun_writeTriplets_cons]
    exact hrest.cons hphase hlen

/-- Settles O20: the run fills the entries, and the times change none of them. -/
theorem consecutiveTripletsFillConsecutiveEntries : Obligations.ConsecutiveTripletsFillConsecutiveEntries := by
  intro s colors l hphase hlen hl
  obtain ⟨active, now, happly⟩ := applyAll_bus (writeTriplets_isBusOp colors) hl
  obtain ⟨hindex, htphase, hfilled, hothers⟩ := busRun_writeTriplets hphase hlen
  exact ⟨_, happly, hindex, htphase, fun k hk => ⟨hfilled k hk 0, hfilled k hk 1, hfilled k hk 2⟩, hothers⟩

/-! ## Interleaved transfers -/

/-- A cursor and its phase as a position among the 768 bytes of palette memory, entry by entry. -/
def cursorPosition (e : Byte) (k : Channel) : Nat := 3 * e.toNat + k.val

theorem cursorPosition_lt (e : Byte) (k : Channel) : cursorPosition e k < 768 := by
  have he := e.isLt
  have hk := k.isLt
  simp only [cursorPosition]
  omega

/-- A byte transferred moves a cursor to the next position, from the last to the first (40_palette.md R85, R89 to R91). -/
theorem cursorPosition_next (e : Byte) (k : Channel) :
    cursorPosition (if k = 2 then e + 1 else e) (nextPhase k) = (cursorPosition e k + 1) % 768 := by
  have he := e.isLt
  match k with
  | 0 | 1 | 2 =>
    simp [cursorPosition]
    omega

/-- A cursor at the position of a count of bytes is at that many whole triplets, and its phase at the rest. -/
theorem cursor_of_position {e : Byte} {k : Channel} {n : Nat} (h : cursorPosition e k = n % 768) :
    e.toNat = n / 3 % 256 ∧ k.val = n % 3 := by
  have he := e.isLt
  have hk := k.isLt
  simp only [cursorPosition] at h
  omega

/-- The position of the next byte written. -/
def State.writePosition (s : State) : Nat := cursorPosition s.writeIndex s.writePhase

/-- The position of the next byte read. -/
def State.readPosition (s : State) : Nat := cursorPosition s.readIndex s.readPhase

theorem State.writePosition_writeData (s : State) (d : Byte) :
    (s.writeData d).writePosition = (s.writePosition + 1) % 768 := by
  rw [State.writePosition, State.writePosition, ← cursorPosition_next]
  by_cases h : s.writePhase = 2
  · simp [State.writeData_of_third h, State.commit_eq, h]
  · simp [State.writeData_of_partial h, h]

theorem State.readPosition_writeData (s : State) (d : Byte) : (s.writeData d).readPosition = s.readPosition := by
  by_cases h : s.writePhase = 2
  · rw [State.writeData_of_third h]; rfl
  · rw [State.writeData_of_partial h]; rfl

theorem State.readPosition_readData (s : State) : s.readData.readPosition = (s.readPosition + 1) % 768 := by
  rw [State.readPosition, State.readPosition, ← cursorPosition_next, State.readData_eq]

theorem State.writePosition_readData (s : State) : s.readData.writePosition = s.writePosition := by
  rw [State.readData_eq]; rfl

/-- Of the operations that set no cursor, palette-data writes move the write cursor and palette-data reads the read cursor. -/
theorem busNext_positions {i : Instr} (hi : i.leavesCursorsAlone = true) (s : State) :
    (busNext i s).writePosition = (s.writePosition + if i.isDataWrite then 1 else 0) % 768 ∧
      (busNext i s).readPosition = (s.readPosition + if i.isDataRead then 1 else 0) % 768 := by
  have hwrite : s.writePosition = s.writePosition % 768 := (Nat.mod_eq_of_lt (cursorPosition_lt _ _)).symm
  have hread : s.readPosition = s.readPosition % 768 := (Nat.mod_eq_of_lt (cursorPosition_lt _ _)).symm
  cases i with
  | wrPdata d => exact ⟨s.writePosition_writeData d, (s.readPosition_writeData d).trans hread⟩
  | rdPdata => exact ⟨s.writePosition_readData.trans hwrite, s.readPosition_readData⟩
  | rdWaddr | rdRaddr | rdReg2 | rdReg4to7 | rdReg8to15 => exact ⟨hwrite, hread⟩
  | wrReg2 | wrReg4to7 | wrReg8to15 => exact ⟨hwrite, hread⟩
  | wrWaddr | wrRaddr | scanTick | lineChange | framerSent | frameTimer | reset | setBits => cases hi

theorem busRun_positions {ops : List Instr} (hops : ∀ i ∈ ops, i.leavesCursorsAlone = true) (s : State) :
    (busRun ops s).writePosition = (s.writePosition + ops.countP Instr.isDataWrite) % 768 ∧
      (busRun ops s).readPosition = (s.readPosition + ops.countP Instr.isDataRead) % 768 := by
  induction ops generalizing s with
  | nil => exact ⟨(Nat.mod_eq_of_lt (cursorPosition_lt _ _)).symm, (Nat.mod_eq_of_lt (cursorPosition_lt _ _)).symm⟩
  | cons i ops ih =>
    obtain ⟨hi, hops⟩ := List.forall_mem_cons.mp hops
    obtain ⟨hwrite, hread⟩ := busNext_positions hi s
    obtain ⟨hwrites, hreads⟩ := ih hops (busNext i s)
    rw [busRun_cons, hwrites, hreads, hwrite, hread, List.countP_cons, List.countP_cons]
    omega

theorem isBusOp_of_leavesCursorsAlone {i : Instr} (hi : i.leavesCursorsAlone = true) (hwf : i.WellFormed) :
    i.isBusOp = true := by
  cases i with
  | wrWaddr | wrRaddr | scanTick | lineChange | framerSent | frameTimer | reset | setBits => cases hi
  | _ => exact hwf

/-- Settles O19: each cursor's position counts its own transfers from 0, modulo the 768 bytes. -/
theorem interleavedTransfersAdvanceEachCursorAlone : Obligations.InterleavedTransfersAdvanceEachCursorAlone := by
  refine ⟨fun s t h => ?_, fun s l hwi hri hwp hrp hops htimes => ?_⟩
  · cases h
    exact ⟨rfl, rfl, rfl, rfl⟩
  have halone : ∀ i ∈ l.map Prod.fst, i.leavesCursorsAlone = true :=
    List.forall_mem_map.mpr fun p hp => (hops p hp).1
  have hbus : (l.map Prod.fst).all Instr.isBusOp = true :=
    List.all_eq_true.mpr (List.forall_mem_map.mpr fun p hp => isBusOp_of_leavesCursorsAlone (hops p hp).1 (hops p hp).2)
  obtain ⟨active, now, happly⟩ := applyAll_bus hbus ⟨rfl, htimes⟩
  obtain ⟨hwrite, hread⟩ := busRun_positions halone s
  have hwrite0 : s.writePosition = 0 := by rw [State.writePosition, hwi, hwp]; rfl
  have hread0 : s.readPosition = 0 := by rw [State.readPosition, hri, hrp]; rfl
  rw [hwrite0, Nat.zero_add, List.countP_map] at hwrite
  rw [hread0, Nat.zero_add, List.countP_map] at hread
  obtain ⟨hwi', hwp'⟩ := cursor_of_position hwrite
  obtain ⟨hri', hrp'⟩ := cursor_of_position hread
  exact ⟨_, happly, hwi', hwp', hri', hrp'⟩

end Sys2Proof.Machine
end

section
/-! The keyboard's scan (41_keyboard_scan.md), stimulus by stimulus: one tick (O29), one acknowledgement (O32), and a change
that meets a full queue (O31). -/

namespace Sys2Proof.Machine

/-! ## One tick, by what it finds -/

/-- A row that has not changed (R101). -/
theorem State.scanRow_of_unchanged {s : State} {r : Row} {sample : Byte} (h : sample = s.rowScan r) :
    s.scanRow r sample = { s with scanPosition := r } := by
  obtain ⟨-, hscan⟩ | ⟨c, hc, -⟩ := s.scanRow_cases r sample
  · exact hscan
  · rw [h, BitVec.xor_self, (lowestColumn_eq_none 0#8).mpr rfl] at hc
    cases hc

/-- A changed row reports its lowest changed column. -/
theorem State.scanRow_of_isLowest {s : State} {r : Row} {sample : Byte} {c : Column}
    (h : IsLowest (sample ^^^ s.rowScan r) c) :
    s.scanRow r sample = (s.setScanPosition r).reportChange r c (sample.getLsbD c.toNat) := by
  simp only [State.scanRow, (lowestColumn_eq_some _ _).mpr h]

/-- A change met with nothing outstanding is submitted (R101). -/
theorem State.scanRow_submits {s : State} {r : Row} {sample : Byte} {c : Column}
    (hc : IsLowest (sample ^^^ s.rowScan r) c) (hf : s.txInFlight = false) :
    s.scanRow r sample = { s with
      scanPosition := r
      outputs := s.outputs ++ [.txSubmit (scanByte (sample.getLsbD c.toNat) r c) s.lastTime]
      txInFlight := true
      lastScan := (s.recordKey r c (sample.getLsbD c.toNat)).lastScan } := by
  rw [State.scanRow_of_isLowest hc]
  obtain ⟨-, h⟩ | ⟨ht, -⟩ | ⟨ht, -⟩ := (s.setScanPosition r).reportChange_cases r c (sample.getLsbD c.toNat)
  · exact h
  · cases hf.symm.trans ht
  · cases hf.symm.trans ht

/-- A change met with a byte outstanding and room in the queue is queued (R101, R103). -/
theorem State.scanRow_enqueues {s : State} {r : Row} {sample : Byte} {c : Column}
    (hc : IsLowest (sample ^^^ s.rowScan r) c) (hf : s.txInFlight = true) (hroom : s.txQueue.length < s.config.txqDepth) :
    s.scanRow r sample = { s with
      scanPosition := r
      txQueue := s.txQueue ++ [scanByte (sample.getLsbD c.toNat) r c]
      lastScan := (s.recordKey r c (sample.getLsbD c.toNat)).lastScan } := by
  rw [State.scanRow_of_isLowest hc]
  obtain ⟨ht, -⟩ | ⟨-, -, h⟩ | ⟨-, hfull, -⟩ := (s.setScanPosition r).reportChange_cases r c (sample.getLsbD c.toNat)
  · cases ht.symm.trans hf
  · exact h
  · exact absurd hroom (Nat.not_lt.mpr hfull)

/-- A change met with the queue full is left unrecorded (R104). -/
theorem State.scanRow_defers {s : State} {r : Row} {sample : Byte} {c : Column}
    (hc : IsLowest (sample ^^^ s.rowScan r) c) (hf : s.txInFlight = true) (hfull : s.config.txqDepth ≤ s.txQueue.length) :
    s.scanRow r sample = { s with scanPosition := r } := by
  rw [State.scanRow_of_isLowest hc]
  obtain ⟨ht, -⟩ | ⟨-, hroom, -⟩ | ⟨-, -, h⟩ := (s.setScanPosition r).reportChange_cases r c (sample.getLsbD c.toNat)
  · cases ht.symm.trans hf
  · exact absurd hfull (Nat.not_le.mpr hroom)
  · exact h

/-- Recording a key changes one bit of the recorded rows (R101). -/
theorem State.rowScan_recordKey_getLsbD (s : State) (r x : Row) (c j : Column) (p : Bool) :
    ((s.recordKey r c p).rowScan x).getLsbD j.toNat = if x = r ∧ j = c then p else (s.rowScan x).getLsbD j.toNat := by
  rw [State.rowScan_recordKey]
  by_cases hx : x = r
  · simp [hx, withColumn_getLsbD]
  · simp [hx]

/-- The word of a tick as a number (30_encoding.md R68). -/
theorem scanTickWord_toNat (r : Row) (sample : Byte) :
    (encode (.scanTick r sample)).toNat = 0x4000 + 256 * r.toNat + sample.toNat := by
  rw [encode, wordOf_toNat, Nat.mul_comm r.toNat]
  rfl

/-- Settles O29: the branches of R101, of which the two that record a key change one bit of the recorded rows. -/
theorem scanTickReportsTheLowestChangedColumn : Obligations.ScanTickReportsTheLowestChangedColumn := by
  refine fun s r sample => ⟨scanTickWord_toNat r sample,
    fun h => congrArg Host.Outcome.next (State.scanRow_of_unchanged h), fun c hc => ⟨fun hf => ?_, fun hf hroom => ?_,
      fun hf hfull => congrArg Host.Outcome.next (State.scanRow_defers hc hf hfull)⟩⟩
  · exact ⟨_, congrArg Host.Outcome.next (State.scanRow_submits hc hf), rfl,
      fun x j => s.rowScan_recordKey_getLsbD r x c j _⟩
  · exact ⟨_, congrArg Host.Outcome.next (State.scanRow_enqueues hc hf hroom), rfl,
      fun x j => s.rowScan_recordKey_getLsbD r x c j _⟩

/-! ## One acknowledgement, by what waits -/

/-- An acknowledgement with nothing outstanding (R106). -/
theorem State.framerDone_of_idle {s : State} (hf : s.txInFlight = false) : s.framerDone = s := by
  obtain ⟨-, h⟩ | ⟨ht, -⟩ | ⟨_, _, ht, -⟩ := s.framerDone_cases
  · exact h
  · cases hf.symm.trans ht
  · cases hf.symm.trans ht

/-- An acknowledgement with nothing waiting (R105). -/
theorem State.framerDone_of_nil {s : State} (hf : s.txInFlight = true) (hq : s.txQueue = []) :
    s.framerDone = { s with txInFlight := false } := by
  obtain ⟨ht, -⟩ | ⟨-, -, h⟩ | ⟨_, _, -, hcons, -⟩ := s.framerDone_cases
  · cases ht.symm.trans hf
  · exact h
  · cases hq.symm.trans hcons

/-- An acknowledgement with bytes waiting (R105). -/
theorem State.framerDone_of_cons {s : State} {b : Byte} {rest : List Byte} (hf : s.txInFlight = true)
    (hq : s.txQueue = b :: rest) :
    s.framerDone = { s with txQueue := rest, outputs := s.outputs ++ [.txSubmit b s.lastTime] } := by
  obtain ⟨ht, -⟩ | ⟨-, hnil, -⟩ | ⟨_, _, -, hcons, h⟩ := s.framerDone_cases
  · cases ht.symm.trans hf
  · cases hq.symm.trans hnil
  · cases hq.symm.trans hcons
    exact h

/-- Settles O32: the three cases of an acknowledgement. -/
theorem framerSentSubmitsTheNextByteOrClearsTheFlag : Obligations.FramerSentSubmitsTheNextByteOrClearsTheFlag :=
  ⟨rfl, fun _ hf => congrArg Host.Outcome.next (State.framerDone_of_idle hf),
    fun _ hf hq => congrArg Host.Outcome.next (State.framerDone_of_nil hf hq),
    fun _ _ _ hf hq => congrArg Host.Outcome.next (State.framerDone_of_cons hf hq)⟩

/-! ## The same as stimuli -/

theorem applyStimulus_scanTick (r : Row) (sample : Byte) {s : State} {now : Nat} (hnow : s.lastTime ≤ now) :
    applyStimulus ⟨encode (.scanTick r sample), now⟩ s = .next ((s.prologue .scanTick now).scanRow r sample) :=
  applyStimulus_encode (i := .scanTick r sample) rfl hnow

theorem applyStimulus_framerSent {s : State} {now : Nat} (hnow : s.lastTime ≤ now) :
    applyStimulus ⟨encode .framerSent, now⟩ s = .next (s.prologue .framerSent now).framerDone :=
  applyStimulus_encode (i := .framerSent) rfl hnow

/-- Settles O31: the first tick is deferred, the acknowledgement makes room for one byte, and the second tick takes it. -/
theorem changeMetByAFullQueueIsReportedAtTheNextTickWithRoom :
    Obligations.ChangeMetByAFullQueueIsReportedAtTheNextTickWithRoom := by
  intro s r sample c t₁ t₂ t₃ hvalid hf hfull hc h₁ h₂ h₃
  obtain ⟨b, rest, hq⟩ : ∃ b rest, s.txQueue = b :: rest := by
    refine List.exists_cons_of_length_pos ?_
    obtain ⟨-, -, -, hdepth⟩ := hvalid
    rw [hfull]
    exact hdepth
  have hroom : rest.length < s.config.txqDepth := by
    rw [← hfull, hq]
    exact Nat.lt_succ_self _
  refine ⟨_, _, _,
    (applyStimulus_scanTick r sample h₁).trans (congrArg Host.Outcome.next (State.scanRow_defers hc hf hfull.ge)), ?_,
    (applyStimulus_framerSent h₂).trans (congrArg Host.Outcome.next (State.framerDone_of_cons hf hq)), ?_,
    (applyStimulus_scanTick r sample h₃).trans (congrArg Host.Outcome.next (State.scanRow_enqueues hc hf hroom)), rfl, ?_, ?_⟩
  · simp [State.prologue, activeAfter]
  · rw [hq]
    rfl
  · rw [hq]
    rfl
  · exact (s.rowScan_recordKey_getLsbD r r c c _).trans (if_pos ⟨rfl, rfl⟩)

end Sys2Proof.Machine
end

section
/-! Sequences of ticks (41_keyboard_scan.md): every changed column of a row is reported (O30), a held key is reported once
(O34), and again after a RESET (O35). -/

namespace Sys2Proof.Machine

/-! ## Changed columns -/

/-- A row has changed in some column or not at all. -/
theorem eq_or_isLowest (sample recorded : Byte) : sample = recorded ∨ ∃ c, IsLowest (sample ^^^ recorded) c := by
  cases h : lowestColumn (sample ^^^ recorded) with
  | none => exact .inl (BitVec.xor_eq_zero_iff.mp ((lowestColumn_eq_none _).mp h))
  | some c => exact .inr ⟨c, (lowestColumn_eq_some _ _).mp h⟩

theorem changeBytes_self (r : Row) (sample : Byte) : changeBytes r sample sample = [] := by
  simp [changeBytes]

theorem changeBytes_length_le (r : Row) (recorded sample : Byte) : (changeBytes r recorded sample).length ≤ 8 := by
  rw [changeBytes, List.length_map]
  exact List.length_filter_le _ _

/-- The elements a test admits: the first one, and those it admits beside it. -/
theorem filter_eq_cons_of_find? {α : Type} [DecidableEq α] {l : List α} {p : α → Bool} {a : α} (hl : l.Nodup)
    (h : l.find? p = some a) : l.filter p = a :: l.filter (fun x => x != a && p x) := by
  obtain ⟨rest, hrest⟩ : ∃ rest, l.filter p = a :: rest := List.head?_eq_some_iff.mp (List.head?_filter.trans h)
  have herase : (l.filter p).erase a = rest := by rw [hrest, List.erase_cons_head]
  rw [hrest, ← herase, (hl.filter p).erase_eq_filter, List.filter_filter]

/-- A row with a column recorded from the sample differs from the sample in its other changed columns. -/
theorem xor_withColumn_getLsbD (sample recorded : Byte) (c j : Column) :
    (sample ^^^ withColumn recorded c (sample.getLsbD c.toNat)).getLsbD j.toNat =
      (j != c && (sample ^^^ recorded).getLsbD j.toNat) := by
  rw [BitVec.getLsbD_xor, BitVec.getLsbD_xor, withColumn_getLsbD]
  by_cases hj : j = c
  · simp [hj]
  · simp [hj]

/-- Once the lowest changed column is recorded, the others are still to be reported (R102). -/
theorem changeBytes_of_isLowest {r : Row} {recorded sample : Byte} {c : Column} (h : IsLowest (sample ^^^ recorded) c) :
    changeBytes r recorded sample = scanByte (sample.getLsbD c.toNat) r c ::
      changeBytes r (withColumn recorded c (sample.getLsbD c.toNat)) sample := by
  obtain ⟨k, hk, rfl⟩ := Option.map_eq_some_iff.mp ((lowestColumn_eq_some _ _).mpr h)
  have hrest (j : Fin 8) : (j != k && (sample ^^^ recorded).getLsbD j.val) =
      (sample ^^^ withColumn recorded (BitVec.ofFin k) (sample.getLsbD k.val)).getLsbD j.val := by
    have hne : (BitVec.ofFin j != BitVec.ofFin k) = (j != k) := by rw [Bool.eq_iff_iff]; simp
    rw [← hne]
    exact (xor_withColumn_getLsbD sample recorded (BitVec.ofFin k) (BitVec.ofFin j)).symm
  rw [changeBytes, filter_eq_cons_of_find? (List.nodup_finRange 8) hk, List.map_cons]
  simp only [hrest]
  rfl

/-! ## Ticks that find nothing -/

/-- What a tick of an unchanged row leaves alone, and all that a later tick reads (R101). -/
structure ScanUntouched (s t : State) : Prop where
  lastScan : t.lastScan = s.lastScan
  txInFlight : t.txInFlight = s.txInFlight
  txQueue : t.txQueue = s.txQueue
  outputs : t.outputs = s.outputs
  config : t.config = s.config

theorem ScanUntouched.refl (s : State) : ScanUntouched s s := ⟨rfl, rfl, rfl, rfl, rfl⟩

theorem ScanUntouched.trans {s t u : State} (h : ScanUntouched s t) (h' : ScanUntouched t u) : ScanUntouched s u :=
  ⟨h'.lastScan.trans h.lastScan, h'.txInFlight.trans h.txInFlight, h'.txQueue.trans h.txQueue,
    h'.outputs.trans h.outputs, h'.config.trans h.config⟩

theorem applyStimulus_unchangedTick {s : State} {r : Row} {sample : Byte} {now : Nat} (h : sample = s.rowScan r)
    (hnow : s.lastTime ≤ now) :
    ∃ t, applyStimulus ⟨encode (.scanTick r sample), now⟩ s = .next t ∧ t.lastTime = now ∧ ScanUntouched s t := by
  have hscan : (s.prologue .scanTick now).scanRow r sample = { s.prologue .scanTick now with scanPosition := r } :=
    State.scanRow_of_unchanged h
  exact ⟨_, (applyStimulus_scanTick r sample hnow).trans (congrArg Host.Outcome.next hscan), rfl, rfl, rfl, rfl, rfl, rfl⟩

/-- Ticks of unchanged rows, in front of operations still to come. -/
theorem applyAll_unchangedTicks {ops more : List Instr} {s : State} {l : List (Instr × Nat)}
    (hops : ∀ i ∈ ops, ∃ r, i = .scanTick r (s.rowScan r)) (hl : TimedFrom s.lastTime (ops ++ more) l) :
    ∃ first rest t, l = first ++ rest ∧ applyAll (stimuliOf first) s = .next t ∧ TimedFrom t.lastTime more rest ∧
      ScanUntouched s t := by
  induction ops generalizing s l with
  | nil => exact ⟨[], l, s, rfl, rfl, hl, .refl s⟩
  | cons i ops ih =>
    obtain ⟨now, later, rfl, hnow, hlater⟩ := (timedFrom_cons _ _ _ _).mp hl
    obtain ⟨⟨r, rfl⟩, hops'⟩ := List.forall_mem_cons.mp hops
    obtain ⟨u, hu, rfl, hsu⟩ := applyStimulus_unchangedTick rfl hnow
    have hu_ops : ∀ i ∈ ops, ∃ r, i = .scanTick r (u.rowScan r) := fun i hi => by
      simpa only [State.rowScan_congr s u hsu.lastScan] using hops' i hi
    obtain ⟨first, rest, t, rfl, ht, hrest, hut⟩ := ih hu_ops hlater
    exact ⟨_ :: first, rest, t, rfl, (applyAll_cons_next _ _ _ _ hu).trans ht, hrest, hsu.trans hut⟩

/-- Ticks of unchanged rows and nothing else. -/
theorem applyAll_all_unchanged {ops : List Instr} {s : State} {l : List (Instr × Nat)}
    (hops : ∀ i ∈ ops, ∃ r, i = .scanTick r (s.rowScan r)) (hl : TimedFrom s.lastTime ops l) :
    ∃ t, applyAll (stimuliOf l) s = .next t ∧ ScanUntouched s t := by
  rw [← List.append_nil ops] at hl
  obtain ⟨first, rest, t, rfl, ht, hrest, hst⟩ := applyAll_unchangedTicks hops hl
  rw [timedFrom_nil] at hrest
  exact ⟨t, by rwa [hrest, List.append_nil], hst⟩

/-! ## Ticks of one row -/

/-- Every change of row `r` against the sample has been queued and recorded, and nothing has been submitted. -/
structure RowReported (r : Row) (sample : Byte) (s t : State) : Prop where
  row : t.rowScan r = sample
  others : ∀ x, x ≠ r → t.rowScan x = s.rowScan x
  txInFlight : t.txInFlight = s.txInFlight
  outputs : t.outputs = s.outputs
  txQueue : t.txQueue = s.txQueue ++ changeBytes r (s.rowScan r) sample

theorem applyAll_ticks_of_unchanged {r : Row} {sample : Byte} {n : Nat} {s : State} {l : List (Instr × Nat)}
    (h : sample = s.rowScan r) (hl : TimedFrom s.lastTime (List.replicate n (.scanTick r sample)) l) :
    ∃ t, applyAll (stimuliOf l) s = .next t ∧ RowReported r sample s t := by
  obtain ⟨t, ht, hst⟩ := applyAll_all_unchanged (fun i hi => ⟨r, h ▸ List.eq_of_mem_replicate hi⟩) hl
  have hrow := State.rowScan_congr s t hst.lastScan
  refine ⟨t, ht, (hrow r).trans h.symm, fun x _ => hrow x, hst.txInFlight, hst.outputs, ?_⟩
  rw [hst.txQueue, ← h, changeBytes_self, List.append_nil]

/-- A tick at `now` has reported column `c` of row `r` and recorded it: what it leaves whether it submits or queues. -/
structure ColumnRecorded (r : Row) (c : Column) (p : Bool) (now : Nat) (s u : State) : Prop where
  lastScan : u.lastScan = (s.recordKey r c p).lastScan
  txInFlight : u.txInFlight = true
  lastTime : u.lastTime = now
  config : u.config = s.config

theorem applyStimulus_scanTick_submits {r : Row} {sample : Byte} {c : Column} {s : State} {now : Nat}
    (hc : IsLowest (sample ^^^ s.rowScan r) c) (hf : s.txInFlight = false) (hnow : s.lastTime ≤ now) :
    ∃ u, applyStimulus ⟨encode (.scanTick r sample), now⟩ s = .next u ∧
      ColumnRecorded r c (sample.getLsbD c.toNat) now s u ∧ u.txQueue = s.txQueue ∧
      u.outputs = s.outputs ++ [.txSubmit (scanByte (sample.getLsbD c.toNat) r c) now] :=
  ⟨_, (applyStimulus_scanTick r sample hnow).trans (congrArg Host.Outcome.next (State.scanRow_submits hc hf)),
    ⟨rfl, rfl, rfl, rfl⟩, rfl, rfl⟩

theorem applyStimulus_scanTick_enqueues {r : Row} {sample : Byte} {c : Column} {s : State} {now : Nat}
    (hc : IsLowest (sample ^^^ s.rowScan r) c) (hf : s.txInFlight = true)
    (hroom : s.txQueue.length < s.config.txqDepth) (hnow : s.lastTime ≤ now) :
    ∃ u, applyStimulus ⟨encode (.scanTick r sample), now⟩ s = .next u ∧
      ColumnRecorded r c (sample.getLsbD c.toNat) now s u ∧ u.outputs = s.outputs ∧
      u.txQueue = s.txQueue ++ [scanByte (sample.getLsbD c.toNat) r c] :=
  ⟨_, (applyStimulus_scanTick r sample hnow).trans (congrArg Host.Outcome.next (State.scanRow_enqueues hc hf hroom)),
    ⟨rfl, hf, rfl, rfl⟩, rfl, rfl⟩

/-- With its lowest changed column recorded, a row still has the others to report. -/
theorem ColumnRecorded.changeBytes_eq {r : Row} {sample : Byte} {c : Column} {now : Nat} {s u : State}
    (h : ColumnRecorded r c (sample.getLsbD c.toNat) now s u) (hc : IsLowest (sample ^^^ s.rowScan r) c) :
    changeBytes r (s.rowScan r) sample =
      scanByte (sample.getLsbD c.toNat) r c :: changeBytes r (u.rowScan r) sample := by
  rw [changeBytes_of_isLowest hc, State.rowScan_congr _ u h.lastScan, State.rowScan_recordKey, if_pos rfl]

theorem ColumnRecorded.rowScan_of_ne {r x : Row} {c : Column} {p : Bool} {now : Nat} {s u : State}
    (h : ColumnRecorded r c p now s u) (hx : x ≠ r) : u.rowScan x = s.rowScan x := by
  rw [State.rowScan_congr _ u h.lastScan, State.rowScan_recordKey, if_neg hx]

/-- With a byte outstanding, as many ticks of a row as it has changed columns queue and record them all (R102, R103). -/
theorem applyAll_ticks_of_outstanding {r : Row} {sample : Byte} {n : Nat} {s : State} {l : List (Instr × Nat)}
    (hl : TimedFrom s.lastTime (List.replicate n (.scanTick r sample)) l) (hf : s.txInFlight = true)
    (hn : (changeBytes r (s.rowScan r) sample).length ≤ n)
    (hroom : s.txQueue.length + (changeBytes r (s.rowScan r) sample).length ≤ s.config.txqDepth) :
    ∃ t, applyAll (stimuliOf l) s = .next t ∧ RowReported r sample s t := by
  induction n generalizing s l with
  | zero =>
    obtain h | ⟨c, hc⟩ := eq_or_isLowest sample (s.rowScan r)
    · exact applyAll_ticks_of_unchanged h hl
    · rw [changeBytes_of_isLowest hc] at hn
      cases hn
  | succ n ih =>
    obtain h | ⟨c, hc⟩ := eq_or_isLowest sample (s.rowScan r)
    · exact applyAll_ticks_of_unchanged h hl
    obtain ⟨now, later, rfl, hnow, hlater⟩ := (timedFrom_cons _ _ _ _).mp hl
    have hspace : s.txQueue.length < s.config.txqDepth := by
      rw [changeBytes_of_isLowest hc, List.length_cons] at hroom
      omega
    obtain ⟨u, hu, hrec, hout, hqueue⟩ := applyStimulus_scanTick_enqueues hc hf hspace hnow
    rw [hrec.changeBytes_eq hc, List.length_cons] at hn hroom
    have hroom' : u.txQueue.length + (changeBytes r (u.rowScan r) sample).length ≤ u.config.txqDepth := by
      rw [hqueue, hrec.config, List.length_append, List.length_singleton]
      omega
    obtain ⟨t, ht, hut⟩ := ih (s := u) (hrec.lastTime.symm ▸ hlater) hrec.txInFlight (by omega) hroom'
    refine ⟨t, (applyAll_cons_next _ _ _ _ hu).trans ht, hut.row, fun x hx => ?_, ?_, hut.outputs.trans hout, ?_⟩
    · rw [hut.others x hx, hrec.rowScan_of_ne hx]
    · rw [hut.txInFlight, hrec.txInFlight, hf]
    · rw [hut.txQueue, hqueue, hrec.changeBytes_eq hc, List.append_assoc, List.singleton_append]

/-- Settles O30: `applyAll_ticks_of_outstanding`, from the start or after a first tick that submits. -/
theorem everyChangedColumnIsReportedOneTickEach : Obligations.EveryChangedColumnIsReportedOneTickEach := by
  intro s r sample now later hl hroom
  have hlength := changeBytes_length_le r (s.rowScan r) sample
  cases hf : s.txInFlight with
  | true =>
    obtain ⟨t, ht, hst⟩ := applyAll_ticks_of_outstanding hl hf hlength (by omega)
    exact ⟨t, ht, hst.row, hst.others, fun _ => ⟨hst.txInFlight.trans hf, hst.outputs, hst.txQueue⟩, nofun⟩
  | false =>
    obtain h | ⟨c, hc⟩ := eq_or_isLowest sample (s.rowScan r)
    · obtain ⟨t, ht, hst⟩ := applyAll_ticks_of_unchanged h hl
      have hnone : changeBytes r (s.rowScan r) sample = [] := by rw [← h, changeBytes_self]
      refine ⟨t, ht, hst.row, hst.others, nofun, fun _ => ⟨?_, ?_, ?_⟩⟩
      · rw [hst.txInFlight, hf, hnone]; rfl
      · rw [hst.outputs, hnone]; simp
      · rw [hst.txQueue, hnone]; rfl
    · obtain ⟨now', later', heq, hnow, hlater⟩ := (timedFrom_cons _ _ _ _).mp hl
      cases heq
      obtain ⟨u, hu, hrec, hqueue, hout⟩ := applyStimulus_scanTick_submits hc hf hnow
      have hbytes := hrec.changeBytes_eq hc
      rw [hbytes, List.length_cons] at hlength
      obtain ⟨t, ht, hut⟩ := applyAll_ticks_of_outstanding (s := u) (hrec.lastTime.symm ▸ hlater) hrec.txInFlight
        (Nat.le_of_succ_le_succ hlength) (by rw [hqueue, hrec.config]; omega)
      refine ⟨t, (applyAll_cons_next _ _ _ _ hu).trans ht, hut.row, fun x hx => ?_, nofun, fun _ => ⟨?_, ?_, ?_⟩⟩
      · rw [hut.others x hx, hrec.rowScan_of_ne hx]
      · rw [hut.txInFlight, hrec.txInFlight, hbytes]; rfl
      · rw [hut.outputs, hout, hbytes]; rfl
      · rw [hut.txQueue, hqueue, hbytes]; rfl

/-! ## Scan cycles -/

theorem mem_scanCycle {samples : Vector Byte 16} {i : Instr} (h : i ∈ scanCycle samples) :
    ∃ r : Row, i = .scanTick r (samples[r.toNat]'r.isLt) := by
  obtain ⟨r, -, rfl⟩ := List.mem_map.mp h
  exact ⟨BitVec.ofFin r, rfl⟩

/-- Samples with only column 3 of row 5 pressed (R109). -/
abbrev heldKeySamples : Vector Byte 16 := (Vector.replicate 16 0#8).set 5 0x08#8

/-- Ticks of rows with no key pressed. -/
def idleTicks (rows : List Row) : List Instr := rows.map (Instr.scanTick · 0#8)

theorem idleTicks_unchanged {rows : List Row} {s : State} (h : ∀ r ∈ rows, s.rowScan r = 0) :
    ∀ i ∈ idleTicks rows, ∃ r, i = .scanTick r (s.rowScan r) :=
  List.forall_mem_map.mpr fun r hr => ⟨r, by rw [h r hr]; rfl⟩

/-- The held key's cycle, split at the row of the key. -/
theorem scanCycle_heldKeySamples : scanCycle heldKeySamples =
    idleTicks [0, 1, 2, 3, 4] ++ .scanTick 5 0x08#8 :: idleTicks [6, 7, 8, 9, 10, 11, 12, 13, 14, 15] := by
  decide

/-- Settles O34: only the tick of row 5 in the first cycle finds a change, and it records the one its sample shows. -/
theorem singleHeldKeyIsReportedOnce : Obligations.SingleHeldKeyIsReportedOnce := by
  intro s u first hreset hfirst
  cases hreset
  have hzero (x : Row) : s.resetAll.rowScan x = 0 := by simp [State.rowScan]
  rw [scanCycle_heldKeySamples] at hfirst
  obtain ⟨before, rest, u₁, rfl, hu₁, hrest, hquiet₁⟩ :=
    applyAll_unchangedTicks (idleTicks_unchanged fun x _ => hzero x) hfirst
  have hzero₁ (x : Row) : u₁.rowScan x = 0 := (State.rowScan_congr _ u₁ hquiet₁.lastScan x).trans (hzero x)
  obtain ⟨now, after, rfl, hnow, hafter⟩ := (timedFrom_cons _ _ _ _).mp hrest
  have hc : IsLowest (0x08#8 ^^^ u₁.rowScan 5) 3 := by
    rw [hzero₁, ← lowestColumn_eq_some]
    rfl
  obtain ⟨u₂, hu₂, hrec, -, hout⟩ := applyStimulus_scanTick_submits hc hquiet₁.txInFlight hnow
  have hzero₂ : ∀ x ∈ [6, 7, 8, 9, 10, 11, 12, 13, 14, 15], u₂.rowScan x = 0 := fun x hx => by
    have hne : x ≠ 5 := by rintro rfl; exact absurd hx (by decide)
    rw [hrec.rowScan_of_ne hne, hzero₁]
  obtain ⟨v, hv, hquiet₂⟩ := applyAll_all_unchanged (idleTicks_unchanged hzero₂) (hrec.lastTime.symm ▸ hafter)
  have hrows : v.lastScan = heldKeySamples := by
    rw [hquiet₂.lastScan, hrec.lastScan, State.recordKey_lastScan, hzero₁, hquiet₁.lastScan]
    rfl
  refine ⟨v, now, ?_, by simp, ?_, fun second hsecond => ?_⟩
  · rw [stimuliOf_append, stimuliOf_cons, applyAll_append _ _ _ _ hu₁, applyAll_cons_next _ _ _ _ hu₂, hv]
  · rw [hquiet₂.outputs, hout, hquiet₁.outputs]
    rfl
  · have hticks : ∀ i ∈ scanCycle heldKeySamples, ∃ r, i = .scanTick r (v.rowScan r) := fun i hi => by
      obtain ⟨r, rfl⟩ := mem_scanCycle hi
      exact ⟨r, by rw [State.rowScan, hrows]⟩
    obtain ⟨w, hw, hquiet₃⟩ := applyAll_all_unchanged hticks hsecond
    exact ⟨w, hw, hquiet₃.outputs⟩

/-! ## A row that is not ticked -/

/-- A tick leaves the other rows as they are recorded (R101). -/
theorem State.scanRow_rowScan_of_ne {r x : Row} (s : State) (sample : Byte) (hx : x ≠ r) :
    (s.scanRow r sample).rowScan x = s.rowScan x := by
  obtain ⟨-, hscan⟩ | ⟨c, -, hscan⟩ := s.scanRow_cases r sample
  · rw [hscan]
    rfl
  rw [hscan]
  obtain ⟨-, h⟩ | ⟨-, -, h⟩ | ⟨-, -, h⟩ := (s.setScanPosition r).reportChange_cases r c (sample.getLsbD c.toNat)
  · rw [h, State.rowScan_recordKey, if_neg hx]
    rfl
  · rw [h, State.rowScan_recordKey, if_neg hx]
    rfl
  · rw [h]
    rfl

/-- Nothing but a tick of row `r` and RESET writes what is recorded of row `r` (10_state.md R36). -/
theorem exec_rowScan_eq {i : Instr} {s t : State} {r : Row} (h : exec i s = .next t) (hr : i ≠ .reset)
    (htick : ∀ x, i ≠ .scanTick r x) : t.rowScan r = s.rowScan r := by
  by_cases hk : i.kind = .scanTick
  · cases i with
    | scanTick r' x =>
      cases h
      exact s.scanRow_rowScan_of_ne x fun e => htick x (e ▸ rfl)
    | _ => cases hk
  · refine State.rowScan_congr s t ?_ r
    by_contra hne
    exact ((exec_onlyWritersWrite h).scan (.inr hne)).elim hk hr

/-- Stimuli that are no tick of row `r`, no RESET and no SET_BITS complete and leave what is recorded of row `r`. -/
theorem applyAll_rowScan_eq {r : Row} {l : List (Instr × Nat)} {later : List Stimulus} {s : State}
    (hl : ∀ p ∈ l, p.1.WellFormed ∧ p.1.kind ≠ .setBits ∧ p.1 ≠ .reset ∧ ∀ x, p.1 ≠ .scanTick r x)
    (htimes : timesFrom s.lastTime (stimuliOf l ++ later) = true) :
    ∃ u, applyAll (stimuliOf l) s = .next u ∧ timesFrom u.lastTime later = true ∧ u.rowScan r = s.rowScan r := by
  induction l generalizing s with
  | nil => exact ⟨s, rfl, htimes, rfl⟩
  | cons p l ih =>
    obtain ⟨i, now⟩ := p
    obtain ⟨⟨hwf, hset, hreset, htick⟩, hl⟩ := List.forall_mem_cons.mp hl
    obtain ⟨hnow, hlater⟩ := (timesFrom_cons _ _ _).mp htimes
    obtain ⟨u, hu⟩ | ⟨bits, rfl, -, -⟩ := exec_cases i (s.prologue i.kind now)
    · obtain ⟨-, -, htime, -⟩ := (exec_onlyWritersWrite hu).carried
      have hkept : u.rowScan r = (s.prologue i.kind now).rowScan r := exec_rowScan_eq hu hreset htick
      obtain ⟨v, hv, hrest, hrow⟩ := ih hl (s := u) (htime.symm ▸ hlater)
      exact ⟨v, (applyAll_cons_next _ _ _ _ ((applyStimulus_encode hwf hnow).trans hu)).trans hv, hrest, hrow.trans hkept⟩
    · exact absurd rfl hset

/-- Settles O35: the row is still recorded as 0x00, so its lowest pressed column is its lowest changed one. -/
theorem keyHeldAcrossResetIsReportedAgain : Obligations.KeyHeldAcrossResetIsReportedAgain := by
  intro s r sample c t₀ t₁ l hc hl htimes
  rw [stimuliOf_cons, timesFrom_cons, stimuliOf_append] at htimes
  obtain ⟨h₀, htimes⟩ := htimes
  have hreset : applyStimulus ⟨encode .reset, t₀⟩ s = .next (s.prologue .reset t₀).resetAll :=
    applyStimulus_encode (i := .reset) rfl h₀
  obtain ⟨u, hu, hlast, hrow⟩ := applyAll_rowScan_eq (s := (s.prologue .reset t₀).resetAll) hl htimes
  obtain ⟨h₁, -⟩ := (timesFrom_cons _ _ _).mp hlast
  have hzero : u.rowScan r = 0 := hrow.trans (by simp [State.rowScan])
  have hchange : IsLowest (sample ^^^ u.rowScan r) c := by rwa [hzero, BitVec.ofNat_eq_ofNat, BitVec.xor_zero]
  have hpressed : sample.getLsbD c.toNat = true := hc.1
  refine ⟨u, _, (applyAll_cons_next _ _ _ _ hreset).trans hu, applyStimulus_scanTick r sample h₁, ?_, fun hf => ?_,
    fun hf hroom => ?_, fun hf hfull => ?_⟩
  · rintro rfl
    cases hu
    rfl
  · have h := State.scanRow_submits (s := u.prologue .scanTick t₁) hchange hf
    rw [h, hpressed]
    rfl
  · have h := State.scanRow_enqueues (s := u.prologue .scanTick t₁) hchange hf hroom
    rw [h, hpressed]
    exact ⟨rfl, rfl⟩
  · have h := State.scanRow_defers (s := u.prologue .scanTick t₁) hchange hf hfull
    rw [h]
    exact ⟨rfl, rfl, hzero⟩

end Sys2Proof.Machine
end

section
/-! The bytes handed to the Serial Framer (41_keyboard_scan.md R107): at most one without an acknowledgement (O33), and an
acknowledgement owed for it while the environment keeps its duties (60_exceptions.md R139; O60). -/

namespace Sys2Proof.Machine

/-! ## Counting submitted bytes -/

@[simp] theorem submitCount_append (l m : List Output) : submitCount (l ++ m) = submitCount l + submitCount m :=
  List.countP_append

@[simp] theorem submitCount_txSubmit (b : Byte) (t : Nat) : submitCount [.txSubmit b t] = 1 := rfl

@[simp] theorem submitCount_busData (v : Byte) : submitCount [.busData v] = 0 := rfl

@[simp] theorem submitCount_toneClick (t d : Nat) : submitCount [.toneClick t d] = 0 := rfl

/-- What an assembled byte of the host line sounds is no scan byte (42_keyboard_line.md R119, R120). -/
theorem submitCount_deliver (s : State) (b : Option Byte) :
    submitCount (s.deliver b).outputs = submitCount s.outputs := by
  cases b with
  | none => rfl
  | some b =>
    rw [State.deliver_some]
    split
    · simp
    · rfl

/-- Only ticks and acknowledgements submit scan bytes (R101, R105). -/
theorem exec_submitCount_eq {i : Instr} {s t : State} (h : exec i s = .next t) (hk : i.kind ≠ .scanTick)
    (hf : i ≠ .framerSent) : submitCount t.outputs = submitCount s.outputs := by
  cases i with
  | rdWaddr | rdReg2 | rdRaddr | rdReg4to7 | rdReg8to15 => cases h; simp [State.readReg]
  | rdPdata => cases h; simp [s.readData_eq]
  | scanTick | framerSent => contradiction
  | lineChange l =>
    cases h
    obtain ⟨-, hl⟩ | ⟨-, hl⟩ := s.changeLine_cases l
    · rw [hl]
    · rw [hl, State.setLine_outputs, submitCount_deliver, State.setRx_outputs]
  | frameTimer =>
    cases h
    obtain ⟨-, ht⟩ | ⟨b, -, ht⟩ := s.expireTimer_cases
    · rw [ht]
    · rw [ht, State.setRx_outputs, submitCount_deliver]
  | wrWaddr | wrPdata | wrReg2 | wrRaddr | wrReg4to7 | wrReg8to15 | reset | setBits =>
    refine congrArg submitCount ?_
    by_contra hne
    simpa [Instr.kind] using (exec_onlyWritersWrite h).outputs hne

/-! ## What a tick adds -/

/-- What a tick can do to the transmit side: nothing, submit a byte with nothing outstanding, or queue one (R101, R104). -/
theorem State.scanRow_tx_cases (s : State) (r : Row) (sample : Byte) :
    ((s.scanRow r sample).txInFlight = s.txInFlight ∧ (s.scanRow r sample).txQueue = s.txQueue ∧
      (s.scanRow r sample).outputs = s.outputs) ∨
    (s.txInFlight = false ∧ (s.scanRow r sample).txInFlight = true ∧ (s.scanRow r sample).txQueue = s.txQueue ∧
      ∃ b, (s.scanRow r sample).outputs = s.outputs ++ [.txSubmit b s.lastTime]) ∨
    (s.txInFlight = true ∧ (s.scanRow r sample).txInFlight = true ∧ (s.scanRow r sample).outputs = s.outputs ∧
      ∃ b, (s.scanRow r sample).txQueue = s.txQueue ++ [b]) := by
  obtain ⟨-, hscan⟩ | ⟨c, -, hscan⟩ := s.scanRow_cases r sample
  · exact .inl (by rw [hscan]; exact ⟨rfl, rfl, rfl⟩)
  rw [hscan]
  obtain ⟨hf, h⟩ | ⟨hf, -, h⟩ | ⟨-, -, h⟩ := (s.setScanPosition r).reportChange_cases r c (sample.getLsbD c.toNat)
  · exact .inr (.inl (by rw [h]; exact ⟨hf, rfl, rfl, _, rfl⟩))
  · exact .inr (.inr (by rw [h]; exact ⟨hf, hf, rfl, _, rfl⟩))
  · exact .inl (by rw [h]; exact ⟨rfl, rfl, rfl⟩)

/-- One tick, at most one byte submitted or queued (R107). -/
theorem State.scanRow_adds_at_most_one_byte (s : State) (r : Row) (sample : Byte) :
    submitCount (s.scanRow r sample).outputs + (s.scanRow r sample).txQueue.length ≤
      submitCount s.outputs + s.txQueue.length + 1 := by
  obtain ⟨-, hq, ho⟩ | ⟨-, -, hq, b, ho⟩ | ⟨-, -, ho, b, hq⟩ := s.scanRow_tx_cases r sample
  · rw [hq, ho]
    omega
  · rw [hq, ho, submitCount_append, submitCount_txSubmit]
    omega
  · rw [hq, ho, List.length_append, List.length_singleton]
    omega

/-! ## Without an acknowledgement -/

/-- From `s` to `t` no scan byte was submitted and the flag is as it was, or one was, with none outstanding before it. -/
def SubmitsAtMostOne (s t : State) : Prop :=
  (t.txInFlight = s.txInFlight ∧ submitCount t.outputs = submitCount s.outputs) ∨
  (s.txInFlight = false ∧ t.txInFlight = true ∧ submitCount t.outputs = submitCount s.outputs + 1)

theorem SubmitsAtMostOne.refl (s : State) : SubmitsAtMostOne s s := .inl ⟨rfl, rfl⟩

/-- Two submits cannot follow one another: after the first a byte is outstanding. -/
theorem SubmitsAtMostOne.trans {s t u : State} (h : SubmitsAtMostOne s t) (h' : SubmitsAtMostOne t u) :
    SubmitsAtMostOne s u := by
  obtain ⟨hflag, hcount⟩ | ⟨hidle, hflag, hcount⟩ := h
  · unfold SubmitsAtMostOne
    rw [← hflag, ← hcount]
    exact h'
  · obtain ⟨hflag', hcount'⟩ | ⟨hidle', -⟩ := h'
    · exact .inr ⟨hidle, hflag'.trans hflag, hcount'.trans hcount⟩
    · cases hidle'.symm.trans hflag

/-- Every operation but an acknowledgement and RESET submits at most one byte, and only with none outstanding. -/
theorem exec_submitsAtMostOne {i : Instr} {s t : State} (h : exec i s = .next t) (hf : i ≠ .framerSent)
    (hr : i ≠ .reset) : SubmitsAtMostOne s t := by
  by_cases hk : i.kind = .scanTick
  · cases i with
    | scanTick r sample =>
      cases h
      obtain ⟨hflag, -, ho⟩ | ⟨hidle, hflag, -, b, ho⟩ | ⟨hbusy, hflag, ho, -⟩ := s.scanRow_tx_cases r sample
      · exact .inl ⟨hflag, congrArg submitCount ho⟩
      · exact .inr ⟨hidle, hflag, by rw [ho, submitCount_append, submitCount_txSubmit]⟩
      · exact .inl ⟨hflag.trans hbusy.symm, congrArg submitCount ho⟩
    | _ => cases hk
  · exact .inl ⟨((exec_onlyWritersWrite h).tx_eq hk hf hr).1, exec_submitCount_eq h hk hf⟩

/-- A sequence that completes has completed its first stimulus. -/
theorem applyAll_cons_eq_next {st : Stimulus} {l : List Stimulus} {s t : State} (h : applyAll (st :: l) s = .next t) :
    ∃ u, applyStimulus st s = .next u ∧ applyAll l u = .next t := by
  rw [applyAll] at h
  split at h
  · next u hu => exact ⟨u, hu, h⟩
  · cases h
  · cases h

theorem applyAll_submitsAtMostOne {l : List Stimulus} {s t : State}
    (hl : ∀ st ∈ l, decode st.word ≠ .ok .framerSent ∧ decode st.word ≠ .ok .reset) (h : applyAll l s = .next t) :
    SubmitsAtMostOne s t := by
  induction l generalizing s with
  | nil =>
    cases h
    exact .refl _
  | cons st l ih =>
    obtain ⟨⟨hf, hr⟩, hl⟩ := List.forall_mem_cons.mp hl
    obtain ⟨u, hu, hrest⟩ := applyAll_cons_eq_next h
    obtain ⟨i, hi, -, hexec⟩ := applyStimulus_next st s u hu
    have hfirst : SubmitsAtMostOne (s.prologue i.kind st.time) u :=
      exec_submitsAtMostOne hexec (fun e => hf (e ▸ hi)) fun e => hr (e ▸ hi)
    exact SubmitsAtMostOne.trans (s := s) hfirst (ih hl hrest)

/-- Settles O33: a run without acknowledgements is one `SubmitsAtMostOne`. -/
theorem atMostOneSubmitWithoutAnAcknowledgement : Obligations.AtMostOneSubmitWithoutAnAcknowledgement := by
  refine ⟨fun l s t hl h => ?_, fun s t r sample h => ?_⟩
  · obtain ⟨-, hcount⟩ | ⟨hidle, hflag, hcount⟩ := applyAll_submitsAtMostOne hl h
    · exact ⟨by omega, fun _ => hcount, fun hone => by omega⟩
    · exact ⟨hcount.le, fun hbusy => (by cases hidle.symm.trans hbusy), fun _ => hflag⟩
  · cases h
    exact s.scanRow_adds_at_most_one_byte r sample

/-! ## Acknowledgements owed -/

/-- After an operation a byte is outstanding because it was submitted just now, or was before and is not acknowledged. -/
theorem exec_outstanding {i : Instr} {s t : State} (h : exec i s = .next t) (hf : t.txInFlight = true) :
    submitCount t.outputs = submitCount s.outputs + 1 ∨
      (i ≠ .framerSent ∧ s.txInFlight = true) := by
  by_cases hack : i = .framerSent
  · subst hack
    cases h
    obtain ⟨hidle, hs⟩ | ⟨-, -, hs⟩ | ⟨b, rest, -, -, hs⟩ := s.framerDone_cases
    · rw [hs, hidle] at hf
      cases hf
    · rw [hs] at hf
      cases hf
    · rw [hs]
      simp
  by_cases hreset : i = .reset
  · subst hreset
    cases h
    cases hf
  obtain ⟨hflag, -⟩ | ⟨-, -, hcount⟩ := exec_submitsAtMostOne h hack hreset
  · exact .inr ⟨hack, hflag.symm.trans hf⟩
  · exact .inl hcount

/-- One stimulus keeps an outstanding byte owed, whether or not it keeps the duties. -/
theorem Environment.after_owed {env : Environment} {i : Instr} {s t : State} {now : Nat}
    (howed : s.txInFlight = true → 0 < env.owed) (h : exec i (s.prologue i.kind now) = .next t)
    (hf : t.txInFlight = true) : 0 < (env.after i s t).owed := by
  obtain hcount | ⟨hack, hbusy⟩ := exec_outstanding h hf
  · rw [State.prologue_outputs] at hcount
    simp only [Environment.after, hcount]
    omega
  · have hpos : 0 < env.owed := howed hbusy
    simp only [Environment.after, if_neg hack]
    omega

/-- A sequence that keeps the duties goes on from its first stimulus's state. -/
theorem dutiesKept_cons {st : Stimulus} {l : List Stimulus} {env : Environment} {s : State} {e : Environment × State}
    (h : dutiesKept (st :: l) env s = some e) :
    ∃ i t, exec i (s.prologue i.kind st.time) = .next t ∧ dutiesKept l (env.after i s t) t = some e := by
  rw [dutiesKept] at h
  split at h
  case h_2 => cases h
  next i t hi ht =>
  obtain ⟨j, hj, -, hexec⟩ := applyStimulus_next st s t ht
  cases hi.symm.trans hj
  split at h
  · exact ⟨i, t, hexec, h⟩
  · cases h

/-- Settles O60: by induction on the sequence, one stimulus at a time. -/
theorem outstandingByteIsOwedAnAcknowledgement : Obligations.OutstandingByteIsOwedAnAcknowledgement := by
  intro l env env' s s' howed h
  induction l generalizing env s with
  | nil =>
    cases h
    exact howed
  | cons st l ih =>
    obtain ⟨i, t, hexec, hl⟩ := dutiesKept_cons h
    exact ih _ _ (Environment.after_owed howed hexec) hl

end Sys2Proof.Machine
end

section
/-! The receiver, pulse by pulse (42_keyboard_line.md): the classifier (O36), level reports that are no transition (O37) or come
outside a frame (O38), the edges inside a frame (O39, O40), and the frame timer with its deadline (O41, O42). -/

namespace Sys2Proof.Machine

/-! ## The classifier -/

/-- Under a tolerance below half a bit period a multiple within the tolerance is the nearest one (R111). -/
theorem nearestMultiple_eq {period tol e k : Nat} (htol : 2 * tol < period) (hle : e ≤ k * period + tol)
    (hge : k * period ≤ e + tol) : (e + period / 2) / period = k := by
  refine Nat.div_eq_of_lt_le (by omega) ?_
  rw [Nat.add_mul]
  omega

theorem classify_eq_some_iff {cfg : Config} (htol : 2 * cfg.bitTol < cfg.bitPeriod) (e k : Nat) :
    classify cfg e = some k ↔
      1 ≤ k ∧ e ≤ k * cfg.bitPeriod + cfg.bitTol ∧ k * cfg.bitPeriod ≤ e + cfg.bitTol := by
  refine ⟨classify_spec cfg e k, fun ⟨hk, hle, hge⟩ => ?_⟩
  rw [classify, nearestMultiple_eq htol hle hge]
  exact if_pos ⟨hk, hle, hge⟩

/-- A width below every positive multiple's tolerance (R111). -/
theorem classify_of_lt {cfg : Config} {e : Nat} (h : e + cfg.bitTol < cfg.bitPeriod) : classify cfg e = none := by
  rw [Option.eq_none_iff_forall_not_mem]
  intro k hk
  obtain ⟨hk1, -, hge⟩ := classify_spec cfg e k hk
  have hperiod : 1 * cfg.bitPeriod ≤ k * cfg.bitPeriod := Nat.mul_le_mul_right _ hk1
  omega

/-- Settles O36: the two inequalities of the classifier are one on the integer distance. -/
theorem pulseClassifierAnswersTheOneWholeNumberOfPeriods :
    Obligations.PulseClassifierAnswersTheOneWholeNumberOfPeriods := by
  refine fun cfg e ⟨_, _, htol, _⟩ => ⟨fun k => ?_, classify_of_lt⟩
  rw [classify_eq_some_iff htol, ← Nat.cast_mul]
  omega

/-! ## The bits a high run sets -/

theorem or_ones_getLsbD (shift : Byte) (i j : Nat) {n : Nat} (hn : n < 8) :
    (shift ||| ones i j).getLsbD n = (shift.getLsbD n || decide (i ≤ n ∧ n ≤ j)) := by
  rw [BitVec.getLsbD_or, ones_getLsbD]
  simp only [hn, true_and]

theorem completedByte_getLsbD (pos : Nat) (shift : Byte) {n : Nat} (hn : n < 8) :
    (completedByte pos shift).getLsbD n = (shift.getLsbD n || decide (pos - 1 ≤ n)) := by
  have h7 : n ≤ 7 := Nat.le_of_lt_succ hn
  rw [completedByte, or_ones_getLsbD _ _ _ hn]
  simp only [h7, and_true]

/-! ## The edges, case by case -/

@[simp] theorem decodePulse_false (cfg : Config) (e : Nat) (r : RxState) :
    decodePulse cfg false e r = (riseEdge cfg e r, none) := rfl

@[simp] theorem decodePulse_true (cfg : Config) (e : Nat) (r : RxState) : decodePulse cfg true e r = fallEdge cfg e r := rfl

theorem riseEdge_of_classify_none {cfg : Config} {e : Nat} (h : classify cfg e = none) (r : RxState) :
    riseEdge cfg e r = .idle := by
  cases r with
  | idle => rfl
  | rx => simp only [riseEdge, h]

theorem riseEdge_of_classify_some {cfg : Config} {e k : Nat} (h : classify cfg e = some k) (pos : Nat) (shift : Byte) :
    riseEdge cfg e (.rx pos shift) = if pos + k - 1 > 8 then .idle else .rx (pos + k) shift := by
  simp only [riseEdge, h]

/-- Before a frame, and at position 0, the high run is idle time of any width (R114). -/
theorem fallEdge_of_outside (cfg : Config) (e : Nat) {r : RxState} (h : r = .idle ∨ ∃ shift, r = .rx 0 shift) :
    fallEdge cfg e r = (.rx 0 0, none) := by
  obtain rfl | ⟨_, rfl⟩ := h <;> rfl

theorem fallEdge_of_reachesStop {cfg : Config} {pos e : Nat} (hpos : 1 ≤ pos) (h : reachesStop cfg pos e = true)
    (shift : Byte) : fallEdge cfg e (.rx pos shift) = (.rx 0 0, some (completedByte pos shift)) := by
  simp only [fallEdge, if_neg (Nat.ne_of_gt hpos), if_pos h]
  rfl

theorem fallEdge_of_classify_none {cfg : Config} {pos e : Nat} (hpos : 1 ≤ pos) (hs : reachesStop cfg pos e = false)
    (h : classify cfg e = none) (shift : Byte) : fallEdge cfg e (.rx pos shift) = (.idle, none) := by
  simp [fallEdge, Nat.ne_of_gt hpos, hs, h]

theorem fallEdge_of_classify_some {cfg : Config} {pos e k : Nat} (hpos : 1 ≤ pos) (hs : reachesStop cfg pos e = false)
    (h : classify cfg e = some k) (shift : Byte) :
    fallEdge cfg e (.rx pos shift) = (.rx (pos + k) (shift ||| ones (pos - 1) (pos + k - 2)), none) := by
  simp [fallEdge, Nat.ne_of_gt hpos, hs, h]

theorem reachesStop_eq_false_iff (cfg : Config) (pos e : Nat) :
    reachesStop cfg pos e = false ↔ e + cfg.bitTol < (10 - pos) * cfg.bitPeriod := by
  rw [← Bool.not_eq_true, reachesStop_iff, Nat.not_le]

/-! ## What a transition writes -/

/-- The outputs of delivering an assembled byte, none for none (R119, R120). -/
def delivered (cfg : Config) (t : Nat) : Option Byte → List Output
  | none => []
  | some b => clicksOf cfg b t

theorem State.deliver_eq (s : State) (o : Option Byte) :
    s.deliver o = { s with outputs := s.outputs ++ delivered s.config s.lastTime o } := by
  cases o with
  | none => simp [delivered]
  | some b =>
    rw [State.deliver_some, delivered, clicksOf]
    split <;> simp

theorem State.changeLine_of_eq {s : State} {l : Bool} (h : l = s.lineLevel) : s.changeLine l = s := if_pos h

/-- A transition records the level and the time and writes what its pulse decodes to (R112). -/
theorem State.changeLine_of_ne {s : State} {l : Bool} {r : RxState} {o : Option Byte} (hl : l ≠ s.lineLevel)
    (hd : decodePulse s.config s.lineLevel (s.lastTime - s.lastChange) s.rx = (r, o)) :
    s.changeLine l = { s with
      lineLevel := l
      lastChange := s.lastTime
      rx := r
      outputs := s.outputs ++ delivered s.config s.lastTime o } := by
  obtain ⟨heq, -⟩ | ⟨-, h⟩ := s.changeLine_cases l
  · exact absurd heq hl
  · rw [h, hd, State.deliver_eq]
    rfl

/-- A transition whose pulse completes no frame. -/
theorem State.changeLine_silent {s : State} {l : Bool} {r : RxState} (hl : l ≠ s.lineLevel)
    (hd : decodePulse s.config s.lineLevel (s.lastTime - s.lastChange) s.rx = (r, none)) :
    s.changeLine l = { s with lineLevel := l, lastChange := s.lastTime, rx := r } := by
  rw [State.changeLine_of_ne hl hd, delivered, List.append_nil]

theorem State.changeLine_rise {s : State} {r : RxState} (hl : s.lineLevel = false)
    (hr : riseEdge s.config (s.lastTime - s.lastChange) s.rx = r) :
    s.changeLine true = { s with lineLevel := true, lastChange := s.lastTime, rx := r } :=
  State.changeLine_silent (by simp [hl]) (by rw [hl, decodePulse_false, hr])

theorem State.changeLine_fall {s : State} {r : RxState} (hl : s.lineLevel = true)
    (hr : fallEdge s.config (s.lastTime - s.lastChange) s.rx = (r, none)) :
    s.changeLine false = { s with lineLevel := false, lastChange := s.lastTime, rx := r } :=
  State.changeLine_silent (by simp [hl]) (by rw [hl, decodePulse_true, hr])

/-- A falling edge that completes a frame (R117, R119). -/
theorem State.changeLine_fall_delivers {s : State} {r : RxState} {b : Byte} (hl : s.lineLevel = true)
    (hr : fallEdge s.config (s.lastTime - s.lastChange) s.rx = (r, some b)) :
    s.changeLine false = { s with
      lineLevel := false
      lastChange := s.lastTime
      rx := r
      outputs := s.outputs ++ clicksOf s.config b s.lastTime } :=
  State.changeLine_of_ne (o := some b) (by simp [hl]) (by rw [hl, decodePulse_true, hr])

/-- Settles O37. -/
theorem lineReportOfTheCurrentLevelIsIgnored : Obligations.LineReportOfTheCurrentLevelIsIgnored :=
  ⟨rfl, rfl, fun _ => congrArg Host.Outcome.next (State.changeLine_of_eq rfl)⟩

/-- Settles O38: neither edge classifies the run it ends. -/
theorem lineEdgesOutsideAFrame : Obligations.LineEdgesOutsideAFrame := by
  refine ⟨fun s hl hrx => congrArg Host.Outcome.next (State.changeLine_fall hl (fallEdge_of_outside _ _ hrx)),
    fun s hl hrx => congrArg Host.Outcome.next ?_⟩
  have hrise : riseEdge s.config (s.lastTime - s.lastChange) s.rx = s.rx := by rw [hrx]; rfl
  exact State.changeLine_rise hl hrise

/-- Settles O39: the rising edge by what the classifier answers. -/
theorem risingEdgeInAFrameCountsLowBits : Obligations.RisingEdgeInAFrameCountsLowBits := by
  intro s pos shift hl hrx
  refine ⟨fun hnone => ?_, fun k hk => ?_⟩
  · exact congrArg Host.Outcome.next (State.changeLine_rise hl (riseEdge_of_classify_none hnone s.rx))
  have hrise := riseEdge_of_classify_some hk pos shift
  rw [← hrx] at hrise
  refine ⟨fun hpast => ?_, fun hin => ?_⟩
  · exact congrArg Host.Outcome.next (State.changeLine_rise hl (hrise.trans (if_pos hpast)))
  · exact congrArg Host.Outcome.next (State.changeLine_rise hl (hrise.trans (if_neg (Nat.not_lt.mpr hin))))

/-- Settles O40: the falling edge by whether the run reached the stop bit, and if not by what the classifier answers. -/
theorem fallingEdgeInAFrameSetsOnesOrCompletesIt : Obligations.FallingEdgeInAFrameSetsOnesOrCompletesIt := by
  intro s pos shift hl hrx hpos
  refine ⟨fun hreach => ?_, fun hbefore => ?_⟩
  · have hfall := fallEdge_of_reachesStop hpos ((reachesStop_iff _ _ _).mpr hreach) shift
    rw [← hrx] at hfall
    exact ⟨completedByte pos shift, fun i hi => completedByte_getLsbD pos shift hi,
      congrArg Host.Outcome.next (State.changeLine_fall_delivers hl hfall)⟩
  have hs := (reachesStop_eq_false_iff _ _ _).mpr hbefore
  refine ⟨fun hnone => ?_, fun k hk => ⟨classify_before_stop _ _ _ _ hs hk, _, fun i hi => or_ones_getLsbD _ _ _ hi, ?_⟩⟩
  · have hfall := fallEdge_of_classify_none hpos hs hnone shift
    rw [← hrx] at hfall
    exact congrArg Host.Outcome.next (State.changeLine_fall hl hfall)
  · have hfall := fallEdge_of_classify_some hpos hs hk shift
    rw [← hrx] at hfall
    exact congrArg Host.Outcome.next (State.changeLine_fall hl hfall)

/-! ## The frame timer -/

/-- The timer completes a frame whose last run is high and has reached the stop bit (R121). -/
theorem timerByte_eq_some_iff (cfg : Config) (level : Bool) (since now : Nat) (r : RxState) (b : Byte) :
    timerByte cfg level since now r = some b ↔
      ∃ pos shift, r = .rx pos shift ∧ 1 ≤ pos ∧ level = true ∧ reachesStop cfg pos (now - since) = true ∧
        completedByte pos shift = b := by
  cases r with
  | idle => simp [timerByte]
  | rx pos shift => simp [timerByte, and_assoc]

/-- Nothing to complete: no frame, a line that is low, or a high run that has not reached the stop bit (R121). -/
theorem timerByte_eq_none_iff (cfg : Config) (level : Bool) (since now : Nat) (r : RxState) :
    timerByte cfg level since now r = none ↔
      ∀ pos shift, r = .rx pos shift → 1 ≤ pos → level = true → reachesStop cfg pos (now - since) = false := by
  cases r with
  | idle => simp [timerByte]
  | rx pos shift => simp [timerByte]

theorem State.expireTimer_of_none {s : State}
    (h : timerByte s.config s.lineLevel s.lastChange s.lastTime s.rx = none) : s.expireTimer = s := by
  simp only [State.expireTimer, h]

theorem State.expireTimer_of_some {s : State} {b : Byte}
    (h : timerByte s.config s.lineLevel s.lastChange s.lastTime s.rx = some b) :
    s.expireTimer = { s with rx := .idle, outputs := s.outputs ++ clicksOf s.config b s.lastTime } := by
  simp only [State.expireTimer, h, State.deliver_eq]
  rfl

/-- Settles O41: the two answers of the timer. -/
theorem frameTimerCompletesAFrameAtItsDeadline : Obligations.FrameTimerCompletesAFrameAtItsDeadline := by
  refine ⟨rfl, fun s pos shift hrx hpos hl hreach => ?_, fun s hbefore => ?_⟩
  · have hbyte := (timerByte_eq_some_iff s.config s.lineLevel s.lastChange s.lastTime s.rx _).mpr
      ⟨pos, shift, hrx, hpos, hl, (reachesStop_iff _ _ _).mpr hreach, rfl⟩
    exact ⟨completedByte pos shift, fun i hi => completedByte_getLsbD pos shift hi,
      congrArg Host.Outcome.next (State.expireTimer_of_some hbyte)⟩
  · refine congrArg Host.Outcome.next (State.expireTimer_of_none ((timerByte_eq_none_iff _ _ _ _ _).mpr ?_))
    exact fun pos shift hrx hpos hl => (reachesStop_eq_false_iff _ _ _).mpr (hbefore pos shift hrx hpos hl)

/-- The frame deadline stands exactly while a frame's last run is high (R122). -/
theorem State.frameDeadline_eq_some_iff (s : State) (d : Nat) :
    s.frameDeadline = some d ↔ ∃ pos shift, s.rx = .rx pos shift ∧ 1 ≤ pos ∧ s.lineLevel = true ∧
      s.lastChange + (10 - pos) * s.config.bitPeriod - s.config.bitTol = d := by
  cases h : s.rx with
  | idle => simp [State.frameDeadline, h]
  | rx pos shift => simp [State.frameDeadline, h, Config.frameBits, and_assoc]

theorem State.frameDeadline_eq_none_iff (s : State) :
    s.frameDeadline = none ↔ ∀ pos shift, s.rx = .rx pos shift → 1 ≤ pos → s.lineLevel = false := by
  cases h : s.rx with
  | idle => simp [State.frameDeadline, h]
  | rx pos shift => simp [State.frameDeadline, h]

/-- Settles O42: with the last transition in the past, the deadline is the time from which the timer's condition holds (O41);
neither R43's shape nor the ranges of the configuration are needed. -/
theorem frameTimerActsExactlyFromTheFrameDeadline : Obligations.FrameTimerActsExactlyFromTheFrameDeadline := by
  intro s _ _ hpast
  obtain ⟨-, hcompletes, hidle⟩ := frameTimerCompletesAFrameAtItsDeadline
  unfold TransitionInPast at hpast
  refine ⟨fun hnone => hidle s fun pos shift hrx hpos hl => ?_, fun d hd => ?_⟩
  · cases hl.symm.trans (s.frameDeadline_eq_none_iff.mp hnone pos shift hrx hpos)
  obtain ⟨pos, shift, hrx, hpos, hl, hdeadline⟩ := (s.frameDeadline_eq_some_iff d).mp hd
  refine ⟨fun hbefore => hidle s fun pos' shift' hrx' _ _ => ?_, fun hfrom => ?_⟩
  · cases hrx.symm.trans hrx'
    omega
  · obtain ⟨b, hbits, hexec⟩ := hcompletes s pos shift hrx hpos hl (by omega)
    exact ⟨pos, shift, b, hrx, hbits, hexec⟩

end Sys2Proof.Machine
end

section
/-! Stimuli on the host line together (42_keyboard_line.md): pulses too short to hold a bit (O43), and the frame timer with a
falling edge at one time (O44). -/

namespace Sys2Proof.Machine

/-! ## Pulses too short to hold a bit -/

/-- Inside a frame a pulse shorter than a bit ends the frame: it reaches no stop bit and is no whole number of periods (R118). -/
theorem decodePulse_of_lt {cfg : Config} {level : Bool} {pos e : Nat} {shift : Byte} (hshape : RxShape level (.rx pos shift))
    (h : e + cfg.bitTol < cfg.bitPeriod) : decodePulse cfg level e (.rx pos shift) = (.idle, none) := by
  have hnone := classify_of_lt h
  cases level with
  | false => rw [decodePulse_false, riseEdge_of_classify_none hnone]
  | true =>
    obtain ⟨hzero, hinside⟩ := hshape pos shift rfl
    have hpos : 1 ≤ pos := Nat.one_le_iff_ne_zero.mpr fun h0 => absurd (hzero h0).1.symm Bool.false_ne_true
    obtain ⟨h9, -⟩ := hinside hpos
    have hperiod : 1 * cfg.bitPeriod ≤ (10 - pos) * cfg.bitPeriod := Nat.mul_le_mul_right _ (by omega)
    have hstop : reachesStop cfg pos e = false := (reachesStop_eq_false_iff _ _ _).mpr (by omega)
    rw [decodePulse_true, fallEdge_of_classify_none hpos hstop hnone]

/-- Settles O43: the falling edge begins a frame of position 0, so the short pulse ends inside a frame in both cases. -/
theorem nearZeroPulseDecodesNothing : Obligations.NearZeroPulseDecodesNothing := by
  refine ⟨fun s t1 t2 hrx hl h1 h2 hshort => ?_, fun s pos shift hrx hshape hshort => ?_⟩
  · have hstart : decodePulse s.config s.lineLevel (t1 - s.lastChange) s.rx = (.rx 0 0, none) := by
      rw [hl, decodePulse_true, fallEdge_of_outside _ _ (.inl hrx)]
    have hdrop : decodePulse s.config false (t2 - t1) (.rx 0 0) = (.idle, none) :=
      decodePulse_of_lt rxShape_start (by omega)
    have hfall := applyStimulus_transition (l := false) (by simp [hl]) h1 hstart
    rw [State.deliver_none] at hfall
    have hrise := applyStimulus_transition (s := ((s.prologue .lineChange t1).setRx (.rx 0 0)).setLine false) (l := true)
      (by simp) h2 hdrop
    exact ⟨_, (applyAll_cons_next _ _ _ _ hfall).trans (applyAll_singleton _ hrise), by simp, by simp⟩
  · have hdrop := decodePulse_of_lt (hrx ▸ (receiverShape_iff s).mp hshape) hshort
    rw [← hrx] at hdrop
    exact ⟨_, congrArg Host.Outcome.next (State.changeLine_silent (Bool.not_ne_self _) hdrop), rfl, rfl⟩

/-! ## The timer and a falling edge at one time -/

theorem State.expireTimer_of_low {s : State} (hl : s.lineLevel = false) : s.expireTimer = s :=
  State.expireTimer_of_none ((timerByte_eq_none_iff _ _ _ _ _).mpr fun _ _ _ _ ht => nomatch hl.symm.trans ht)

/-- A level report leaves the line at the reported level, whether or not it is a transition (R112, R113). -/
theorem State.changeLine_lineLevel (s : State) (l : Bool) : (s.changeLine l).lineLevel = l := by
  obtain ⟨heq, h⟩ | ⟨-, h⟩ := s.changeLine_cases l
  · rw [h, heq]
  · rw [h, State.setLine_lineLevel]

/-- Where the timer completes a frame, the falling edge at the same time completes it with the same byte (R117, R121). -/
theorem fallEdge_of_timerByte {cfg : Config} {level : Bool} {since now : Nat} {r : RxState} {b : Byte}
    (h : timerByte cfg level since now r = some b) : level = true ∧ fallEdge cfg (now - since) r = (.rx 0 0, some b) := by
  obtain ⟨pos, shift, rfl, hpos, hl, hstop, rfl⟩ := (timerByte_eq_some_iff _ _ _ _ _ _).mp h
  exact ⟨hl, fallEdge_of_reachesStop hpos hstop shift⟩

/-- The timer just before a falling edge makes no difference: it has completed the frame the edge would have, or done
nothing. -/
theorem State.changeLine_expireTimer (s : State) : s.expireTimer.changeLine false = s.changeLine false := by
  cases h : timerByte s.config s.lineLevel s.lastChange s.lastTime s.rx with
  | none => rw [State.expireTimer_of_none h]
  | some b =>
    obtain ⟨hl, hfall⟩ := fallEdge_of_timerByte h
    rw [State.expireTimer_of_some h, State.changeLine_fall_delivers hl hfall]
    exact State.changeLine_fall hl (fallEdge_of_outside _ _ (.inl rfl))

/-- The timer just after a falling edge finds the line low. -/
theorem State.expireTimer_changeLine (s : State) : (s.changeLine false).expireTimer = s.changeLine false :=
  State.expireTimer_of_low (s.changeLine_lineLevel false)

/-- At an active block the prologue of a stimulus at the time of the one before it changes nothing (00_scope.md R18). -/
theorem State.prologue_eq_self {s : State} (k : Kind) (hactive : s.active = true) : s.prologue k s.lastTime = s := by
  have hafter : activeAfter s.active k = s.active := by simp [activeAfter, hactive]
  rw [State.prologue, hafter]

/-- Two stimuli at one time, the first not SET_BITS, run one after the other behind one prologue. -/
theorem applyAll_pair {i j : Instr} (hi : i.WellFormed) (hj : j.WellFormed) (hk : i.kind ≠ .setBits) {s u v : State}
    {now : Nat} (hnow : s.lastTime ≤ now) (hu : exec i (s.prologue i.kind now) = .next u) (hv : exec j u = .next v) :
    applyAll [⟨encode i, now⟩, ⟨encode j, now⟩] s = .next v := by
  obtain ⟨-, hactive, htime, -⟩ := (exec_onlyWritersWrite hu).carried
  have hon : u.active = true := by simp [hactive, activeAfter, hk]
  have hfirst := (applyStimulus_encode hi hnow).trans hu
  have hsecond : applyStimulus ⟨encode j, now⟩ u = .next v := by
    rw [State.prologue_lastTime] at htime
    rw [← htime, applyStimulus_encode hj (Nat.le_refl _), State.prologue_eq_self _ hon, hv]
  exact (applyAll_cons_next _ _ _ _ hfirst).trans (applyAll_singleton _ hsecond)

theorem applyAll_timer_fall {s : State} {now : Nat} (hnow : s.lastTime ≤ now) :
    applyAll [⟨encode .frameTimer, now⟩, ⟨encode (.lineChange false), now⟩] s =
      .next ((s.prologue .lineChange now).changeLine false) :=
  applyAll_pair (i := .frameTimer) (j := .lineChange false) rfl rfl nofun hnow rfl
    (congrArg Host.Outcome.next (s.prologue .lineChange now).changeLine_expireTimer)

theorem applyAll_fall_timer {s : State} {now : Nat} (hnow : s.lastTime ≤ now) :
    applyAll [⟨encode (.lineChange false), now⟩, ⟨encode .frameTimer, now⟩] s =
      .next ((s.prologue .lineChange now).changeLine false) :=
  applyAll_pair (i := .lineChange false) (j := .frameTimer) rfl rfl nofun hnow rfl
    (congrArg Host.Outcome.next (s.prologue .lineChange now).expireTimer_changeLine)

/-- Settles O44: in either order the two answer what the falling edge alone does. -/
theorem frameTimerAndFallingEdgeAgreeInEitherOrder : Obligations.FrameTimerAndFallingEdgeAgreeInEitherOrder := by
  intro s now hnow
  rw [applyAll_timer_fall hnow, applyAll_fall_timer hnow]
  refine ⟨rfl, fun pos shift hrx hpos hl hreach => ⟨_, rfl, ?_⟩⟩
  have hfall := fallEdge_of_reachesStop hpos ((reachesStop_iff _ _ _).mpr hreach) shift
  rw [← hrx] at hfall
  rw [State.changeLine_fall_delivers (s := s.prologue .lineChange now) hl hfall]
  exact ⟨rfl, rfl, rfl⟩

end Sys2Proof.Machine
end

section
/-! The keyboard controller's two sides (42_keyboard_line.md R126): the scan and transmit rules and the receive rules are blind to
each other's state, and neither emits the other's outputs (O49). -/

namespace Sys2Proof.Machine

/-! ## The operations of each side -/

theorem eq_of_kind_scan {i : Instr} (h : i.kind = .scanTick ∨ i.kind = .framerSent) :
    (∃ r sample, i = .scanTick r sample) ∨ i = .framerSent := by
  cases i with
  | scanTick r sample => exact .inl ⟨r, sample, rfl⟩
  | framerSent => exact .inr rfl
  | _ => simp [Instr.kind] at h

theorem eq_of_kind_line {i : Instr} (h : i.kind = .lineChange ∨ i.kind = .frameTimer) :
    (∃ l, i = .lineChange l) ∨ i = .frameTimer := by
  cases i with
  | lineChange l => exact .inl ⟨l, rfl⟩
  | frameTimer => exact .inr rfl
  | _ => simp [Instr.kind] at h

/-! ## The scan side is blind to the receiver -/

/-- What a tick finds, in the row and in the transmit side, is found with another receiver too. -/
theorem State.scanRow_withLineSideOf (s k : State) (r : Row) (sample : Byte) :
    (s.withLineSideOf k).scanRow r sample = (s.scanRow r sample).withLineSideOf k := by
  obtain h | ⟨c, hc⟩ := eq_or_isLowest sample (s.rowScan r)
  · rw [State.scanRow_of_unchanged h]
    exact State.scanRow_of_unchanged (s := s.withLineSideOf k) h
  cases hf : s.txInFlight with
  | false =>
    rw [State.scanRow_submits hc hf]
    exact State.scanRow_submits (s := s.withLineSideOf k) hc hf
  | true =>
    obtain hroom | hfull := Nat.lt_or_ge s.txQueue.length s.config.txqDepth
    · rw [State.scanRow_enqueues hc hf hroom]
      exact State.scanRow_enqueues (s := s.withLineSideOf k) hc hf hroom
    · rw [State.scanRow_defers hc hf hfull]
      exact State.scanRow_defers (s := s.withLineSideOf k) hc hf hfull

theorem State.framerDone_withLineSideOf (s k : State) :
    (s.withLineSideOf k).framerDone = s.framerDone.withLineSideOf k := by
  obtain ⟨hf, h⟩ | ⟨hf, hq, h⟩ | ⟨b, rest, hf, hq, h⟩ := s.framerDone_cases
  · rw [h]
    exact State.framerDone_of_idle (s := s.withLineSideOf k) hf
  · rw [h]
    exact State.framerDone_of_nil (s := s.withLineSideOf k) hf hq
  · rw [h]
    exact State.framerDone_of_cons (s := s.withLineSideOf k) hf hq

theorem exec_withLineSideOf {i : Instr} (hi : i.kind = .scanTick ∨ i.kind = .framerSent) (s k : State) :
    exec i (s.withLineSideOf k) = mapNext (fun t => t.withLineSideOf k) (exec i s) := by
  obtain ⟨r, sample, rfl⟩ | rfl := eq_of_kind_scan hi
  · exact congrArg Host.Outcome.next (s.scanRow_withLineSideOf k r sample)
  · exact congrArg Host.Outcome.next (s.framerDone_withLineSideOf k)

/-! ## The receiver is blind to the scan side -/

theorem State.changeLine_withScanSideOf (s k : State) (l : Bool) :
    (s.withScanSideOf k).changeLine l = (s.changeLine l).withScanSideOf k := by
  by_cases hl : l = s.lineLevel
  · rw [State.changeLine_of_eq hl]
    exact State.changeLine_of_eq (s := s.withScanSideOf k) hl
  · rw [State.changeLine_of_ne hl rfl]
    exact State.changeLine_of_ne (s := s.withScanSideOf k) hl rfl

theorem State.expireTimer_withScanSideOf (s k : State) :
    (s.withScanSideOf k).expireTimer = s.expireTimer.withScanSideOf k := by
  cases h : timerByte s.config s.lineLevel s.lastChange s.lastTime s.rx with
  | none =>
    rw [State.expireTimer_of_none h]
    exact State.expireTimer_of_none (s := s.withScanSideOf k) h
  | some b =>
    rw [State.expireTimer_of_some h]
    exact State.expireTimer_of_some (s := s.withScanSideOf k) h

theorem exec_withScanSideOf {i : Instr} (hi : i.kind = .lineChange ∨ i.kind = .frameTimer) (s k : State) :
    exec i (s.withScanSideOf k) = mapNext (fun t => t.withScanSideOf k) (exec i s) := by
  obtain ⟨l, rfl⟩ | rfl := eq_of_kind_line hi
  · exact congrArg Host.Outcome.next (s.changeLine_withScanSideOf k l)
  · exact congrArg Host.Outcome.next (s.expireTimer_withScanSideOf k)

/-! ## Outputs -/

/-- What the scan rules emit is submitted bytes (41_keyboard_scan.md R101, R105). -/
theorem exec_scan_outputs {i : Instr} (hi : i.kind = .scanTick ∨ i.kind = .framerSent) {s t : State}
    (h : exec i s = .next t) : t.outputs = s.outputs ∨ ∃ b, t.outputs = s.outputs ++ [.txSubmit b s.lastTime] := by
  obtain ⟨r, sample, rfl⟩ | rfl := eq_of_kind_scan hi
  · cases h
    obtain ⟨-, -, ho⟩ | ⟨-, -, -, ho⟩ | ⟨-, -, ho, -⟩ := s.scanRow_tx_cases r sample
    · exact .inl ho
    · exact .inr ho
    · exact .inl ho
  · cases h
    obtain ⟨-, hs⟩ | ⟨-, -, hs⟩ | ⟨b, _, -, -, hs⟩ := s.framerDone_cases
    · exact .inl (by rw [hs])
    · exact .inl (by rw [hs])
    · exact .inr ⟨b, by rw [hs]⟩

/-- Settles O49: each side's rules are blind to the other's state, and the outputs of each are of its own sort. -/
theorem receiveAndTransmitAreIndependent : Obligations.ReceiveAndTransmitAreIndependent := by
  refine ⟨fun _ s k hi => exec_withLineSideOf hi s k, fun _ s k hi => exec_withScanSideOf hi s k,
    fun i s t hi h => ?_, fun i s t hi h at' dur => ?_⟩
  · obtain ⟨l, rfl⟩ | rfl := eq_of_kind_line hi
    · exact exec_submitCount_eq h nofun nofun
    · exact exec_submitCount_eq h nofun nofun
  · obtain ho | ⟨b, ho⟩ := exec_scan_outputs hi h
    · rw [ho]
    · simp [ho, List.count_append]

end Sys2Proof.Machine
end

section
/-! No exceptions and no idle activity (60_exceptions.md): the block waits unchanged (O8), and every operation runs to its end
(O10). -/

namespace Sys2Proof.Machine

/-- Settles O8: the step fetches nothing, and so applies nothing. -/
theorem stepWithNothingPendingKeepsTheState : Obligations.StepWithNothingPendingKeepsTheState :=
  fun _ hp => step_of_pending_nil hp

/-- The one stop of an operation is SET_BITS at an active block (40_palette.md R98); away from it the operation completes. -/
theorem exec_completes {i : Instr} {s : State} (h : ∀ bits, i = .setBits bits → s.active = false) :
    ∃ t, exec i s = .next t := by
  obtain hnext | ⟨bits, hi, ha, -⟩ := exec_cases i s
  · exact hnext
  · exact absurd ((h bits hi).symm.trans ha) Bool.false_ne_true

/-- Settles O10: operations complete by `exec_completes`, and a step has no fault to answer, `Fault` being empty (log 16). -/
theorem everyOperationCompletesAndNoneFaults : Obligations.EveryOperationCompletesAndNoneFaults := by
  refine ⟨fun _ _ h => exec_completes h, fun _ r => ?_⟩
  cases r

end Sys2Proof.Machine
end

section
/-! Reset (70_reset_and_hazards.md): RESET's word, its next state, and what that state leaves unchanged (O46). -/

namespace Sys2Proof.Machine

/-- RESET's operand fields are zero, so its word is the opcode 110 alone (30_encoding.md R77). -/
theorem encode_reset : encode .reset = 0xC000#16 := rfl

/-- RESET has no refusal, whatever the state (70_reset_and_hazards.md R143). -/
theorem exec_reset (s : State) : exec .reset s = .next s.resetAll := rfl

/-- Settles O46: `resetAll` writes the defaults over the registers, cursors, scan and line fields, and names no field of
palette memory, pens, depth, active flag or outputs, so those are carried over (R144). -/
theorem resetSetsTheDefaultsAndKeepsThePalette : Obligations.ResetSetsTheDefaultsAndKeepsThePalette :=
  ⟨encode_reset, exec_reset⟩

end Sys2Proof.Machine
end
